-- ==== Sys2Proof/Word.lean ====
section
/-!
DEFINITION. The words and index types of the EB-60: a byte of a frame, the numbered objects of
00_scope.md ("Numbering"), the two ports, and a value kept once for each port.
-/

namespace Sys2Proof

/-- One byte of a frame (R173: every field not marked wider is one byte). -/
abbrev Byte := BitVec 8

/-- Bays are numbered 0–59. -/
abbrev BayId := Fin 60

/-- Zones are numbered 0–3. -/
abbrev ZoneId := Fin 4

/-- Supplies are numbered 0–3. -/
abbrev SupplyId := Fin 4

/-- Fans are numbered 0–15, fan = zone × 4 + index. -/
abbrev FanId := Fin 16

/-- Board sensors are numbered 0–7. -/
abbrev SensorId := Fin 8

/-- Profiles are numbered 0–7; a carrier code is the number of the profile it selects. -/
abbrev ProfileId := Fin 8

/-- Plan step slots are numbered 0–31. -/
abbrev SlotId := Fin 32

/-- The two message ports. -/
inductive Port where
  | a
  | b
  deriving DecidableEq, Repr

/-- The other port. -/
def Port.peer : Port → Port
  | .a => .b
  | .b => .a

/-- A value kept once for each port. -/
structure PerPort (α : Type) where
  a : α
  b : α
  deriving DecidableEq, Repr

/-- The value of one port. -/
def PerPort.get {α : Type} (v : PerPort α) : Port → α
  | .a => v.a
  | .b => v.b

/-- Replace the value of one port. -/
def PerPort.set {α : Type} (v : PerPort α) (p : Port) (x : α) : PerPort α :=
  match p with
  | .a => { v with a := x }
  | .b => { v with b := x }

/-- Apply a function to the values of both ports. -/
def PerPort.map {α β : Type} (f : α → β) (v : PerPort α) : PerPort β :=
  { a := f v.a, b := f v.b }

end Sys2Proof
end

