-- ==== Sys2Proof/Machine/Types.lean ====
section
/-!
DEFINITION. The named values of the EB-60 (the states, origins, events, policies and results of
chapters 1 to 11, with the codes of 11.3), the settings of every block (R164), and the settings
image as the external memory holds it.
-/

namespace Sys2Proof.Machine

/-- The ten bay states of 1.2, in the order of their codes (11.3). -/
inductive BayState where
  | empty | settling | off | queued | starting | ready | backoff | stopping | removable | fault
  deriving DecidableEq, Repr

/-- The code of a bay state (11.3). -/
def BayState.code : BayState → Nat
  | .empty => 0 | .settling => 1 | .off => 2 | .queued => 3 | .starting => 4
  | .ready => 5 | .backoff => 6 | .stopping => 7 | .removable => 8 | .fault => 9

/-- A bay whose switch is closed is STARTING or READY (1.2, R23). -/
def BayState.powered : BayState → Bool
  | .starting | .ready => true
  | _ => false

/-- The states with no identified carrier (R1: carrier code absent). -/
def BayState.noCarrier : BayState → Bool
  | .empty | .settling => true
  | _ => false

/-- Why a bay was put on the way to power (R1). -/
inductive Origin where
  | request | insertion | restart | plan | retry | shed | restore
  deriving DecidableEq, Repr

/-- The code of an origin (11.3). -/
def Origin.code : Origin → Nat
  | .request => 0 | .insertion => 1 | .restart => 2 | .plan => 3 | .retry => 4 | .shed => 5 | .restore => 6

/-- The cause of a FAULT (R20). -/
inductive FaultCause where
  | startTrip | runTrip
  deriving DecidableEq, Repr

/-- The code of a fault cause (11.3). -/
def FaultCause.code : FaultCause → Nat
  | .startTrip => 0 | .runTrip => 1

/-- The last event of a bay (R4). -/
inductive LastEvent where
  | none | inserted | removed | removedLive | queued | admitted | ready | tripped | faulted | stopped
  | removable | windowExpired | cancelled | shed | collapse | button
  deriving DecidableEq, Repr

/-- The code of a last event (11.3). -/
def LastEvent.code : LastEvent → Nat
  | .none => 0 | .inserted => 1 | .removed => 2 | .removedLive => 3 | .queued => 4 | .admitted => 5
  | .ready => 6 | .tripped => 7 | .faulted => 8 | .stopped => 9 | .removable => 10
  | .windowExpired => 11 | .cancelled => 12 | .shed => 13 | .collapse => 14 | .button => 15

/-- The admission mode (R24). -/
inductive Mode where
  | strict | fill
  deriving DecidableEq, Repr

/-- The mode a code names (11.3). -/
def Mode.ofCode : Nat → Option Mode
  | 0 => some .strict
  | 1 => some .fill
  | _ => none

/-- The code of a mode (11.3). -/
def Mode.code : Mode → Nat
  | .strict => 0 | .fill => 1

/-- The insertion policy (R24). -/
inductive InsertionPolicy where
  | manual | auto
  deriving DecidableEq, Repr

/-- The insertion policy a code names (11.3). -/
def InsertionPolicy.ofCode : Nat → Option InsertionPolicy
  | 0 => some .manual
  | 1 => some .auto
  | _ => none

/-- The code of an insertion policy (11.3). -/
def InsertionPolicy.code : InsertionPolicy → Nat
  | .manual => 0 | .auto => 1

/-- The restart policy (R24). -/
inductive RestartPolicy where
  | hold | stage
  deriving DecidableEq, Repr

/-- The restart policy a code names (11.3). -/
def RestartPolicy.ofCode : Nat → Option RestartPolicy
  | 0 => some .hold
  | 1 => some .stage
  | _ => none

/-- The code of a restart policy (11.3). -/
def RestartPolicy.code : RestartPolicy → Nat
  | .hold => 0 | .stage => 1

/-- The reserve policy (R53). -/
inductive ReservePolicy where
  | none | one
  deriving DecidableEq, Repr

/-- The reserve policy a code names (11.3). -/
def ReservePolicy.ofCode : Nat → Option ReservePolicy
  | 0 => some .none
  | 1 => some .one
  | _ => Option.none

/-- The code of a reserve policy (11.3). -/
def ReservePolicy.code : ReservePolicy → Nat
  | .none => 0 | .one => 1

/-- The expiry policy of the removal window (R70). -/
inductive ExpiryPolicy where
  | remainOff | restore
  deriving DecidableEq, Repr

/-- The expiry policy a code names (11.3). -/
def ExpiryPolicy.ofCode : Nat → Option ExpiryPolicy
  | 0 => some .remainOff
  | 1 => some .restore
  | _ => none

/-- The code of an expiry policy (11.3). -/
def ExpiryPolicy.code : ExpiryPolicy → Nat
  | .remainOff => 0 | .restore => 1

/-- The button action (R70). -/
inductive ButtonAction where
  | notify | direct
  deriving DecidableEq, Repr

/-- The button action a code names (11.3). -/
def ButtonAction.ofCode : Nat → Option ButtonAction
  | 0 => some .notify
  | 1 => some .direct
  | _ => none

/-- The code of a button action (11.3). -/
def ButtonAction.code : ButtonAction → Nat
  | .notify => 0 | .direct => 1

/-- The yes or no a code names (11.3). -/
def yesNoOfCode : Nat → Option Bool
  | 0 => some false
  | 1 => some true
  | _ => none

/-- The port a code names (11.3: 1 A, 2 B). -/
def portOfCode : Nat → Option Port
  | 1 => some .a
  | 2 => some .b
  | _ => none

/-- The code of a port that may be absent (11.3, R173: 0 is NONE). -/
def portCode : Option Port → Nat
  | none => 0
  | some .a => 1
  | some .b => 2

/-- The zone a sensor map byte names: 0–3, or NONE as 0xFF (R173). -/
def mapEntryOfCode (n : Nat) : Option (Option ZoneId) :=
  if h : n < 4 then some (some ⟨n, h⟩) else if n = 255 then some none else none

/-- The byte of a sensor map entry (R173). -/
def mapEntryCode : Option ZoneId → Nat
  | none => 255
  | some z => z.val

/-- The state of a fan (R99). -/
inductive FanState where
  | absent | running | failed
  deriving DecidableEq, Repr

/-- The code of a fan state (11.3). -/
def FanState.code : FanState → Nat
  | .absent => 0 | .running => 1 | .failed => 2

/-- The action of a plan step (R123). -/
inductive StepAction where
  | none | on | off | remove | waitTime | waitSettled
  deriving DecidableEq, Repr

/-- The step action a code names (11.3). -/
def StepAction.ofCode : Nat → Option StepAction
  | 0 => some .none
  | 1 => some .on
  | 2 => some .off
  | 3 => some .remove
  | 4 => some .waitTime
  | 5 => some .waitSettled
  | _ => Option.none

/-- The code of a step action (11.3). -/
def StepAction.code : StepAction → Nat
  | .none => 0 | .on => 1 | .off => 2 | .remove => 3 | .waitTime => 4 | .waitSettled => 5

/-- The result of a plan step (R123). -/
inductive StepResult where
  | pending | done | partly | skipped
  deriving DecidableEq, Repr

/-- The code of a step result (11.3; PARTIAL is `partly`). -/
def StepResult.code : StepResult → Nat
  | .pending => 0 | .done => 1 | .partly => 2 | .skipped => 3

/-- The state of the Plan Engine (R126). -/
inductive EngineState where
  | idle | running | paused | aborting | done
  deriving DecidableEq, Repr

/-- The code of an engine state (11.3). -/
def EngineState.code : EngineState → Nat
  | .idle => 0 | .running => 1 | .paused => 2 | .aborting => 3 | .done => 4

/-- RUNNING, PAUSED and ABORTING, in which a plan is under way (R124, R127, R170). -/
def EngineState.active : EngineState → Bool
  | .running | .paused | .aborting => true
  | _ => false

/-- The outcome of a plan (R126). -/
inductive PlanOutcome where
  | complete | aborted
  deriving DecidableEq, Repr

/-- The code of an outcome (11.3). -/
def PlanOutcome.code : PlanOutcome → Nat
  | .complete => 0 | .aborted => 1

/-- The result of the latest save (R169). -/
inductive SaveResult where
  | none | ok | failed
  deriving DecidableEq, Repr

/-- The code of a save result (11.3). -/
def SaveResult.code : SaveResult → Nat
  | .none => 0 | .ok => 1 | .failed => 2

/-- The result codes of 9.3 and 11.3. -/
inductive Result where
  | ok | partly | busy | starting | notOwner | notControlling | heldByPeer | wrongState | badValue
  | badLength | badType
  deriving DecidableEq, Repr

/-- The code of a result (11.3; PARTIAL is `partly`). -/
def Result.code : Result → Nat
  | .ok => 0 | .partly => 1 | .busy => 2 | .starting => 3 | .notOwner => 4 | .notControlling => 5
  | .heldByPeer => 6 | .wrongState => 7 | .badValue => 8 | .badLength => 9 | .badType => 10

/-- The light patterns of R85. -/
inductive Pattern where
  | off | on | slow | fast | wink | activity
  deriving DecidableEq, Repr

/-- The code of a light pattern (11.3). -/
def Pattern.code : Pattern → Nat
  | .off => 0 | .on => 1 | .slow => 2 | .fast => 3 | .wink => 4 | .activity => 5

/-- The three light elements of a bay (R87). -/
inductive Element where
  | green | amber | blue
  deriving DecidableEq, Repr

/-- The 71 objects of a change list (9.4); `note` is the port's own note slot. -/
inductive Obj where
  | bay (b : BayId)
  | supply (i : SupplyId)
  | zone (z : ZoneId)
  | enclosure
  | plan
  | note
  deriving DecidableEq, Repr

/-- A set drawn from the five host indications (R89). -/
structure IndSet where
  locate : Bool
  failed : Bool
  predicted : Bool
  rebuild : Bool
  hotspare : Bool
  deriving DecidableEq, Repr

/-- The six fields of a profile (R8). -/
structure Profile where
  surge : Nat
  surgeTime : Nat
  run : Nat
  boost : Nat
  allowance : Nat
  stopTime : Nat
  deriving DecidableEq, Repr

/-- The four saved settings of a bay (R11). -/
structure BaySettings where
  zone : ZoneId
  level : Fin 8
  sheddable : Bool
  buttonEnabled : Bool
  deriving DecidableEq, Repr

/-- The settings of a zone, its curve included (R118). A curve point is a temperature and a duty. -/
structure ZoneSettings where
  floor : Nat
  ceiling : Nat
  failsafe : Nat
  hysteresis : Nat
  slewUp : Nat
  slewDown : Nat
  hold : Int
  critical : Int
  fanCount : Nat
  fanDraw : Nat
  stallSpeed : Nat
  curve : List (Int × Nat)
  deriving DecidableEq, Repr

/-- Installed and rated capacity of a supply (R50). -/
structure SupplySettings where
  installed : Bool
  capacity : Nat
  deriving DecidableEq, Repr

/-- The budget settings (R53); the shed delay counts seconds. -/
structure BudgetSettings where
  reserve : ReservePolicy
  derate : Nat
  base : Nat
  shedDelay : Nat
  deriving DecidableEq, Repr

/-- The scheduler settings (R24); the times count ticks. -/
structure SchedulerSettings where
  mode : Mode
  startCap : Nat
  gap : Nat
  bypassLimit : Nat
  settle : Nat
  backoff : Nat
  insertion : InsertionPolicy
  restart : RestartPolicy
  deriving DecidableEq, Repr

/-- The removal settings (R70); the window counts seconds, 0 for none. -/
structure RemovalSettings where
  window : Nat
  expiry : ExpiryPolicy
  action : ButtonAction
  deriving DecidableEq, Repr

/-- The port settings (R140). -/
structure PortSettings where
  preferred : Port
  silenceLimit : Nat
  deriving DecidableEq, Repr

/-- Every saved setting of the drawer (R164), as the blocks hold it. -/
structure Settings where
  profiles : Vector Profile 8
  bays : Vector BaySettings 60
  zones : Vector ZoneSettings 4
  sensorMap : Vector (Option ZoneId) 8
  staleness : Nat
  supplies : Vector SupplySettings 4
  budget : BudgetSettings
  scheduler : SchedulerSettings
  removal : RemovalSettings
  ports : PortSettings
  deriving DecidableEq, Repr

/-- The per-bay settings as the image stores them: numbers that may be out of range. -/
structure BayImage where
  zone : Nat
  level : Nat
  sheddable : Nat
  buttonEnabled : Nat
  deriving DecidableEq, Repr

/-- A supply's settings as the image stores them. -/
structure SupplyImage where
  installed : Nat
  capacity : Nat
  deriving DecidableEq, Repr

/-- The settings image (R164) with its values as numbers, in or out of range. The layout in bytes is
internal to the part; an image whose stored sum disagrees is no `Image` (the memory then holds none). -/
structure Image where
  profiles : Vector Profile 8
  bays : Vector BayImage 60
  zones : Vector ZoneSettings 4
  sensorMap : Vector Nat 8
  staleness : Nat
  supplies : Vector SupplyImage 4
  reserve : Nat
  derate : Nat
  base : Nat
  shedDelay : Nat
  mode : Nat
  startCap : Nat
  gap : Nat
  bypassLimit : Nat
  settle : Nat
  backoff : Nat
  insertion : Nat
  restart : Nat
  window : Nat
  expiry : Nat
  action : Nat
  preferred : Nat
  silenceLimit : Nat
  deriving DecidableEq, Repr

/-- What the external memory answers when a load reads it (R165). -/
inductive LoadAnswer where
  /-- The memory does not answer the read: it is absent. -/
  | noAnswer
  /-- The memory returns what the model's memory holds. -/
  | held
  /-- The memory's content has changed from outside; it now holds this image, or no good sum. -/
  | other (image : Option Image)
  deriving DecidableEq, Repr

/-- What a save that failed has left in the memory (R169: it may leave a bad image). -/
inductive MemoryLeft where
  /-- The image that was there before the save. -/
  | kept
  /-- An image whose sum disagrees. -/
  | bad
  /-- The whole snapshot, though the completion did not report it in time. -/
  | whole
  deriving DecidableEq, Repr

/-- How the write of a snapshot ended (R169). -/
inductive SaveOutcome where
  | success
  | failure (left : MemoryLeft)
  deriving DecidableEq, Repr

end Sys2Proof.Machine
end

