-- ==== Sys2Proof/Config.lean ====
section
/-!
DEFINITION. What is fixed in the part (identity, time units, limits) and the free values: constants
without a body for what the manual leaves open. Each free value names its log entry.
-/

namespace Sys2Proof.Config

open Machine

/-- Vendor code (11.5, IDENTIFY). -/
def vendorCode : Nat := 0x0A53

/-- Part code (11.5, IDENTIFY). -/
def partCode : Nat := 0x0E60

/-- Revision (11.5, IDENTIFY). -/
def revision : Nat := 0x02

/-- A tick is 100 ms. -/
def tickMs : Nat := 100

/-- A second in milliseconds. -/
def secondMs : Nat := 1000

/-- A load ends within 300 ms of its start (R165). -/
def loadMs : Nat := 300

/-- A save ends within 2 s of its acceptance (R169). -/
def saveMs : Nat := 2000

/-- The qualify time of a supply, 20 ticks (R51). -/
def qualifyMs : Nat := 2000

/-- The light test, 50 ticks (R94). -/
def lightTestMs : Nat := 5000

/-- The activity dark time (R86). -/
def darkMs : Nat := 60

/-- The light frame period (R85). -/
def frameMs : Nat := 2000

/-- Ages and silences saturate at 65535 s (R103, R148). -/
def saturatedSeconds : Nat := 65535

/-- Free value (log 7): the 16-bit sum of a snapshot. R168 reports it, and R164 leaves the bytes it
is taken over internal to the part. -/
opaque snapshotSum : Image → BitVec 16

/-- Free value (log 8): whether a remaining time in ticks that is no whole number is reported
rounded up or down. -/
opaque ticksRoundUp : Bool

/-- Free value (log 8): the same for the remaining whole seconds of the shed timer (R69). -/
opaque shedSecondsRoundUp : Bool

/-- Free value (log 9): the age reported for a bay without a drive temperature (11.4, offset 15). -/
opaque absentAge : BitVec 16

/-- Free value (log 10): which of several bays that share the highest fresh temperature ZONE QUERY
names (R122); the index is taken modulo their number. -/
opaque hottestTie : List BayId → Nat

/-- Free value (log 11): the one-byte refusal count CHECK PLAN reports for a count above 255. -/
opaque refusalCountAbove255 : Nat → Byte

/-- Free value (log 13): whether LIGHT QUERY reports the two enclosure lights as lit while only the
light test lights them. -/
opaque queryShowsTest : Bool

/-- Free value (log 13): whether LIGHT QUERY reports the enclosure locate light as lit in the dark
half of its SLOW pattern. -/
opaque queryLocateDarkHalf : Bool

end Sys2Proof.Config
end

