-- ==== Sys2Proof/Machine/Operands.lean ====
section
/-!
DEFINITION. The operand forms of the payloads (chapter 11): reading and writing fields of one, two
and four bytes, presence masks, bay lists, the settings blocks, and for each TYPE the one reader of
its payload. A reader answers `none` exactly where the length judgement of R157 and R172 fails.
-/

namespace Sys2Proof.Machine

/-! ### Fields (R173) -/

/-- Clamp an unsigned number to a range. -/
def clamp (lo hi n : Nat) : Nat := max lo (min hi n)

/-- Clamp a signed number to a range. -/
def clampInt (lo hi n : Int) : Int := max lo (min hi n)

/-- The quotient rounded up. -/
def ceilDiv (n d : Nat) : Nat := (n + d - 1) / d

/-- A little-endian field of two bytes, read. -/
def readLe16 (lo hi : Byte) : Nat := lo.toNat + 256 * hi.toNat

/-- A field of one byte, written. -/
def byte (n : Nat) : Byte := BitVec.ofNat 8 n

/-- A little-endian field of two bytes, written. -/
def le16 (n : Nat) : List Byte := [byte n, byte (n / 256)]

/-- A little-endian field of four bytes, written. -/
def le32 (n : Nat) : List Byte := [byte n, byte (n / 256), byte (n / 65536), byte (n / 16777216)]

/-- A signed little-endian field of four bytes, written. -/
def le32Int (n : Int) : List Byte := le32 (BitVec.ofInt 32 n).toNat

/-- A temperature, a signed byte; −128 when absent. -/
def tempByte : Option Int → Byte
  | none => BitVec.ofInt 8 (-128)
  | some t => BitVec.ofInt 8 t

/-- A byte that may be absent, 0xFF when it is. -/
def optByte : Option Nat → Byte
  | none => 0xFF
  | some n => byte n

/-- One bit as 0 or 1. -/
def boolNat (b : Bool) : Nat := if b then 1 else 0

/-- A byte of flags, bit 0 first. -/
def bits : List Bool → Nat
  | [] => 0
  | b :: rest => boolNat b + 2 * bits rest

/-- The field a presence mask marks at bit `i`. -/
def present {α : Type} (mask i : Nat) (x : α) : Option α := if mask.testBit i then some x else none

/-- A mask marks at least one of its first `n` fields. -/
def anyPresent (mask n : Nat) : Bool := mask % 2 ^ n != 0

/-- The bay a byte numbers, if it is 0–59. -/
def bayOf (x : Byte) : Option BayId := if h : x.toNat < 60 then some ⟨x.toNat, h⟩ else none

/-- The slot a byte numbers, if it is 0–31. -/
def slotOf (x : Byte) : Option SlotId := if h : x.toNat < 32 then some ⟨x.toNat, h⟩ else none

/-- The zone or supply a byte numbers, if it is 0–3. -/
def fourOf (x : Byte) : Option (Fin 4) := if h : x.toNat < 4 then some ⟨x.toNat, h⟩ else none

/-- The profile a byte numbers, if it is 0–7. -/
def profileOf (x : Byte) : Option ProfileId := if h : x.toNat < 8 then some ⟨x.toNat, h⟩ else none

/-- A level, clamped to 7 (R12). -/
def levelOf (n : Nat) : Fin 8 := ⟨min n 7, by omega⟩

/-- A bay number clamped into a zone (the image's numeric clamp, R164). -/
def zoneOf (n : Nat) : ZoneId := ⟨min n 3, by omega⟩

/-- The indication set of a byte; bits not named are ignored (R173). -/
def indSetOf (x : Byte) : IndSet :=
  { locate := x.toNat.testBit 0, failed := x.toNat.testBit 1, predicted := x.toNat.testBit 2,
    rebuild := x.toNat.testBit 3, hotspare := x.toNat.testBit 4 }

/-- The byte of an indication set (R173). -/
def IndSet.toNat (i : IndSet) : Nat := bits [i.locate, i.failed, i.predicted, i.rebuild, i.hotspare]

/-! ### Payload readers -/

/-- A payload of no bytes. -/
def readNothing : List Byte → Option Unit
  | [] => some ()
  | _ => none

/-- A payload of one byte. -/
def readOne : List Byte → Option Byte
  | [x] => some x
  | _ => none

/-- A payload of two bytes. -/
def readTwo : List Byte → Option (Byte × Byte)
  | [x, y] => some (x, y)
  | _ => none

/-- A payload of three bytes. -/
def readThree : List Byte → Option (Byte × Byte × Byte)
  | [x, y, z] => some (x, y, z)
  | _ => none

/-- A bay list of 1 to 16 bays followed by `extra` bytes: the bay bytes and the rest (R157, R172). -/
def readBays (extra : Nat) : List Byte → Option (List Byte × List Byte)
  | [] => none
  | c :: rest =>
    if 1 ≤ c.toNat ∧ c.toNat ≤ 16 ∧ rest.length = c.toNat + extra then
      some (rest.take c.toNat, rest.drop c.toNat)
    else none

/-- A payload that is a bay list alone. -/
def readBayList (pl : List Byte) : Option (List Byte) := (readBays 0 pl).map (·.1)

/-- The five settings of SET BAY, each present or absent (R12). -/
structure SetBayArgs where
  bays : List Byte
  profile : Option Byte
  zone : Option Byte
  level : Option Byte
  sheddable : Option Byte
  buttonEnabled : Option Byte
  deriving DecidableEq, Repr

/-- SET BAY: bay list, mask, profile, zone, level, sheddable, button enabled. -/
def readSetBay (pl : List Byte) : Option SetBayArgs :=
  match readBays 6 pl with
  | some (bays, [m, pr, z, l, sh, be]) =>
    if anyPresent m.toNat 5 then
      some { bays := bays, profile := present m.toNat 0 pr, zone := present m.toNat 1 z,
             level := present m.toNat 2 l, sheddable := present m.toNat 3 sh,
             buttonEnabled := present m.toNat 4 be }
    else none
  | _ => none

/-- A note of 1 to 16 bytes (R151). -/
def readNoteBytes (pl : List Byte) : Option (List Byte) :=
  if 1 ≤ pl.length ∧ pl.length ≤ 16 then some pl else none

/-- SET PORT SETTINGS: mask, preferred controller, silence limit. -/
def readPortSettings : List Byte → Option (Option Nat × Option Nat)
  | [m, pc, sl] =>
    if anyPresent m.toNat 2 then some (present m.toNat 0 pc.toNat, present m.toNat 1 sl.toNat)
    else none
  | _ => none

/-- SET INDICATION: bay list, indication set, locate duration (2). -/
def readSetIndication (pl : List Byte) : Option (List Byte × IndSet × Nat) :=
  match readBays 3 pl with
  | some (bays, [i, lo, hi]) => some (bays, indSetOf i, readLe16 lo hi)
  | _ => none

/-- CLEAR INDICATION: bay list, indication set. -/
def readClearIndication (pl : List Byte) : Option (List Byte × IndSet) :=
  match readBays 1 pl with
  | some (bays, [i]) => some (bays, indSetOf i)
  | _ => none

/-- Consecutive pairs of bytes. -/
def readPairs : List Byte → Option (List (Byte × Byte))
  | [] => some []
  | x :: y :: rest => (readPairs rest).map ((x, y) :: ·)
  | _ => none

/-- REPORT DRIVE TEMPERATURES: a count of 1 to 30 and that many pairs (R102). -/
def readReport : List Byte → Option (List (Byte × Byte))
  | [] => none
  | c :: rest =>
    if 1 ≤ c.toNat ∧ c.toNat ≤ 30 ∧ rest.length = 2 * c.toNat then readPairs rest else none

/-- The eleven settings of SET ZONE, each present or absent, not yet clamped (R119). -/
structure SetZoneArgs where
  zone : Byte
  floor : Option Nat
  ceiling : Option Nat
  failsafe : Option Nat
  hysteresis : Option Nat
  slewUp : Option Nat
  slewDown : Option Nat
  hold : Option Int
  critical : Option Int
  fanCount : Option Nat
  fanDraw : Option Nat
  stallSpeed : Option Nat
  deriving DecidableEq, Repr

/-- SET ZONE: zone, mask (2), zone settings block (13). The hold and critical temperatures are signed,
every other number, the hysteresis among them, is unsigned (R173). -/
def readSetZone : List Byte → Option SetZoneArgs
  | [z, m0, m1, fl, ce, fs, hy, su, sd, ho, cr, fc, d0, d1, s0, s1] =>
    let m := readLe16 m0 m1
    if anyPresent m 11 then
      some { zone := z, floor := present m 0 fl.toNat, ceiling := present m 1 ce.toNat,
             failsafe := present m 2 fs.toNat, hysteresis := present m 3 hy.toNat,
             slewUp := present m 4 su.toNat, slewDown := present m 5 sd.toNat,
             hold := present m 6 ho.toInt, critical := present m 7 cr.toInt,
             fanCount := present m 8 fc.toNat, fanDraw := present m 9 (readLe16 d0 d1),
             stallSpeed := present m 10 (readLe16 s0 s1) }
    else none
  | _ => none

/-- SET CURVE: zone, point count, then that many pairs of temperature and duty (R120, R172). -/
def readSetCurve : List Byte → Option (Byte × List (Int × Nat))
  | z :: c :: rest =>
    if rest.length = 2 * c.toNat then
      (readPairs rest).map fun ps => (z, ps.map fun q => (q.1.toInt, q.2.toNat))
    else none
  | _ => none

/-- SET SENSOR MAP: mask (2), eight map entries, staleness limit (2). -/
def readSensorMap : List Byte → Option (List (Option Nat) × Option Nat)
  | [m0, m1, e0, e1, e2, e3, e4, e5, e6, e7, l0, l1] =>
    let m := readLe16 m0 m1
    if anyPresent m 9 then
      some ([present m 0 e0.toNat, present m 1 e1.toNat, present m 2 e2.toNat,
             present m 3 e3.toNat, present m 4 e4.toNat, present m 5 e5.toNat,
             present m 6 e6.toNat, present m 7 e7.toNat], present m 8 (readLe16 l0 l1))
    else none
  | _ => none

/-- SET PROFILE: profile index, profile block (10), not yet clamped. -/
def readSetProfile : List Byte → Option (Byte × Profile)
  | [i, s0, s1, t0, t1, r0, r1, b, a, p0, p1] =>
    some (i, { surge := readLe16 s0 s1, surgeTime := readLe16 t0 t1, run := readLe16 r0 r1,
               boost := b.toNat, allowance := a.toNat, stopTime := readLe16 p0 p1 })
  | _ => none

/-- The eight scheduler settings, each present or absent, as numbers (R25). -/
structure SetSchedulerArgs where
  mode : Option Nat
  startCap : Option Nat
  gap : Option Nat
  bypassLimit : Option Nat
  settle : Option Nat
  backoff : Option Nat
  insertion : Option Nat
  restart : Option Nat
  deriving DecidableEq, Repr

/-- SET SCHEDULER: mask, scheduler block (8). -/
def readSetScheduler : List Byte → Option SetSchedulerArgs
  | [m, mo, sc, ga, bl, se, ba, ins, re] =>
    let k := m.toNat
    if anyPresent k 8 then
      some { mode := present k 0 mo.toNat, startCap := present k 1 sc.toNat,
             gap := present k 2 ga.toNat, bypassLimit := present k 3 bl.toNat,
             settle := present k 4 se.toNat, backoff := present k 5 ba.toNat,
             insertion := present k 6 ins.toNat, restart := present k 7 re.toNat }
    else none
  | _ => none

/-- SET SUPPLY: supply index, mask, installed, capacity (2). -/
def readSetSupply : List Byte → Option (Byte × Option Nat × Option Nat)
  | [i, m, ins, c0, c1] =>
    if anyPresent m.toNat 2 then
      some (i, present m.toNat 0 ins.toNat, present m.toNat 1 (readLe16 c0 c1))
    else none
  | _ => none

/-- The four budget settings, each present or absent, as numbers (R54). -/
structure SetBudgetArgs where
  reserve : Option Nat
  derate : Option Nat
  base : Option Nat
  shedDelay : Option Nat
  deriving DecidableEq, Repr

/-- SET BUDGET: mask, reserve policy, derate, base load (2), shed delay. -/
def readSetBudget : List Byte → Option SetBudgetArgs
  | [m, rp, de, b0, b1, sd] =>
    if anyPresent m.toNat 4 then
      some { reserve := present m.toNat 0 rp.toNat, derate := present m.toNat 1 de.toNat,
             base := present m.toNat 2 (readLe16 b0 b1), shedDelay := present m.toNat 3 sd.toNat }
    else none
  | _ => none

/-- SET REMOVAL: mask, removal window (2), expiry policy, button action. -/
def readSetRemoval : List Byte → Option (Option Nat × Option Nat × Option Nat)
  | [m, w0, w1, ex, ac] =>
    if anyPresent m.toNat 3 then
      some (present m.toNat 0 (readLe16 w0 w1), present m.toNat 1 ex.toNat, present m.toNat 2 ac.toNat)
    else none
  | _ => none

/-- The fields of WRITE STEP as they stand in the payload (R124). -/
structure WriteStepArgs where
  slot : Byte
  action : Byte
  flags : Byte
  next : Byte
  wait : Nat
  bays : List Byte
  deriving DecidableEq, Repr

/-- WRITE STEP: slot, action, step flags, next index, wait time (2), bay-list count and bays; the
count is judged by length only (R172). -/
def readWriteStep : List Byte → Option WriteStepArgs
  | sl :: ac :: fl :: nx :: w0 :: w1 :: c :: rest =>
    if rest.length = c.toNat then
      some { slot := sl, action := ac, flags := fl, next := nx, wait := readLe16 w0 w1, bays := rest }
    else none
  | _ => none

end Sys2Proof.Machine
end

