-- ==== Sys2Proof/Machine/Factory.lean ====
section
/-!
DEFINITION. The factory values of every saved setting (R2, R8, R24, R50, R53, R70, R101, R103, R118,
R140), in force from power-on until the settings state leaves LOADING and after a load that ends in
DEFAULTS (R165).
-/

namespace Sys2Proof.Machine

/-- The factory profiles (R8). -/
def Profile.factory : Vector Profile 8 :=
  let cautious : Profile :=
    { surge := 400, surgeTime := 150, run := 150, boost := 15, allowance := 0, stopTime := 150 }
  #v[{ surge := 330, surgeTime := 80, run := 95, boost := 10, allowance := 1, stopTime := 100 },
     { surge := 220, surgeTime := 120, run := 90, boost := 8, allowance := 1, stopTime := 100 },
     { surge := 120, surgeTime := 5, run := 110, boost := 2, allowance := 0, stopTime := 5 },
     cautious, cautious, cautious, cautious, cautious]

/-- The factory zone of a bay: floor(column / 3), with column the bay number modulo 12 (R2). -/
def factoryZone (b : BayId) : ZoneId := ⟨b.val % 12 / 3, by omega⟩

/-- The factory settings of a bay (R2). -/
def BaySettings.factory (b : BayId) : BaySettings :=
  { zone := factoryZone b, level := 0, sheddable := false, buttonEnabled := true }

/-- The factory settings of a zone (R118). -/
def ZoneSettings.factory : ZoneSettings :=
  { floor := 25, ceiling := 100, failsafe := 100, hysteresis := 3, slewUp := 10, slewDown := 3,
    hold := 50, critical := 58, fanCount := 3, fanDraw := 200, stallSpeed := 500,
    curve := [(25, 30), (35, 45), (45, 80), (55, 100)] }

/-- The factory supplies (R50). -/
def SupplySettings.factory : Vector SupplySettings 4 :=
  #v[{ installed := true, capacity := 12000 }, { installed := true, capacity := 12000 },
     { installed := false, capacity := 0 }, { installed := false, capacity := 0 }]

/-- The factory value of every saved setting. -/
def Settings.factory : Settings :=
  { profiles := Profile.factory
    bays := Vector.ofFn BaySettings.factory
    zones := Vector.replicate 4 ZoneSettings.factory
    sensorMap := #v[some 0, some 0, some 1, some 1, some 2, some 2, some 3, some 3]
    staleness := 60
    supplies := SupplySettings.factory
    budget := { reserve := .one, derate := 90, base := 1500, shedDelay := 0 }
    scheduler :=
      { mode := .strict, startCap := 4, gap := 5, bypassLimit := 8, settle := 10, backoff := 20,
        insertion := .manual, restart := .hold }
    removal := { window := 120, expiry := .remainOff, action := .notify }
    ports := { preferred := .a, silenceLimit := 10 } }

end Sys2Proof.Machine
end

