-- ==== Sys2Proof/Syntax.lean ====
section
/-!
DEFINITION. The commands of the EB-60: one constructor for each row of spec/opcode_table.json.
A request carries the port it arrives on, its TAG and its payload bytes (11.1, 11.2); an event
carries the bay, supply, zone or port it concerns and the input values the part reads at it.
-/

namespace Sys2Proof

open Machine

/-- One command of the part: a request frame that completed with a correct check, an event of a
line, or the expiry of a timer. -/
inductive Instr where
  | identify (p : Port) (tag : Byte) (payload : List Byte)
  | status (p : Port) (tag : Byte) (payload : List Byte)
  | readChanges (p : Port) (tag : Byte) (payload : List Byte)
  | bayQuery (p : Port) (tag : Byte) (payload : List Byte)
  | queueQuery (p : Port) (tag : Byte) (payload : List Byte)
  | ledgerQuery (p : Port) (tag : Byte) (payload : List Byte)
  | zoneQuery (p : Port) (tag : Byte) (payload : List Byte)
  | lightQuery (p : Port) (tag : Byte) (payload : List Byte)
  | removalQuery (p : Port) (tag : Byte) (payload : List Byte)
  | readProfile (p : Port) (tag : Byte) (payload : List Byte)
  | readStep (p : Port) (tag : Byte) (payload : List Byte)
  | powerOn (p : Port) (tag : Byte) (payload : List Byte)
  | powerOff (p : Port) (tag : Byte) (payload : List Byte)
  | prepareRemoval (p : Port) (tag : Byte) (payload : List Byte)
  | cancelRemoval (p : Port) (tag : Byte) (payload : List Byte)
  | clearFault (p : Port) (tag : Byte) (payload : List Byte)
  | declineAttention (p : Port) (tag : Byte) (payload : List Byte)
  | setBay (p : Port) (tag : Byte) (payload : List Byte)
  | claim (p : Port) (tag : Byte) (payload : List Byte)
  | release (p : Port) (tag : Byte) (payload : List Byte)
  | handover (p : Port) (tag : Byte) (payload : List Byte)
  | takeover (p : Port) (tag : Byte) (payload : List Byte)
  | sendNote (p : Port) (tag : Byte) (payload : List Byte)
  | readNote (p : Port) (tag : Byte) (payload : List Byte)
  | setPortSettings (p : Port) (tag : Byte) (payload : List Byte)
  | setIndication (p : Port) (tag : Byte) (payload : List Byte)
  | clearIndication (p : Port) (tag : Byte) (payload : List Byte)
  | enclosureLocate (p : Port) (tag : Byte) (payload : List Byte)
  | lightTest (p : Port) (tag : Byte) (payload : List Byte)
  | reportDriveTemperatures (p : Port) (tag : Byte) (payload : List Byte)
  | setZone (p : Port) (tag : Byte) (payload : List Byte)
  | setCurve (p : Port) (tag : Byte) (payload : List Byte)
  | setSensorMap (p : Port) (tag : Byte) (payload : List Byte)
  | setProfile (p : Port) (tag : Byte) (payload : List Byte)
  | setScheduler (p : Port) (tag : Byte) (payload : List Byte)
  | setSupply (p : Port) (tag : Byte) (payload : List Byte)
  | setBudget (p : Port) (tag : Byte) (payload : List Byte)
  | setRemoval (p : Port) (tag : Byte) (payload : List Byte)
  | writeStep (p : Port) (tag : Byte) (payload : List Byte)
  | startPlan (p : Port) (tag : Byte) (payload : List Byte)
  | pausePlan (p : Port) (tag : Byte) (payload : List Byte)
  | resumePlan (p : Port) (tag : Byte) (payload : List Byte)
  | abortPlan (p : Port) (tag : Byte) (payload : List Byte)
  | checkPlan (p : Port) (tag : Byte) (payload : List Byte)
  | saveSettings (p : Port) (tag : Byte) (payload : List Byte)
  | restart (p : Port) (tag : Byte) (payload : List Byte)
  /-- A frame with a correct check whose TYPE is `kind`, a byte that names no request. -/
  | unknownRequestType (p : Port) (kind : Byte) (tag : Byte) (payload : List Byte)
  | checkError (p : Port)
  | lengthOutOfRange (p : Port)
  | overrunFrame (p : Port)
  | gap (p : Port)
  /-- The row BREAK: the receive line of `p` has been in space for 1 ms. -/
  | breakBegin (p : Port)
  | replyEnd (p : Port)
  | resetAssert
  /-- The release of the reset pin, or the end of power-on. Bit b of `presence` is the presence
  contact of bay b, bit i of `powerGood` the power-good line of supply i, at that moment. -/
  | resetRelease (presence : BitVec 60) (powerGood : BitVec 4)
  | presenceArrives (b : BayId)
  | presenceLost (b : BayId)
  | pull (b : BayId)
  /-- The settle timer of `b` expires; `contacts` are the carrier code contacts of the sixty bays at that
  moment. -/
  | settleEnd (b : BayId) (contacts : Vector ProfileId 60)
  | buttonPress (b : BayId)
  | activityPulse (b : BayId)
  | activityDarkTimerExpiry (b : BayId)
  | startTrip (b : BayId)
  | runTrip (b : BayId)
  | surgeWindowEnd (b : BayId)
  | backoffEnd (b : BayId)
  | stopWindowEnd (b : BayId)
  | staggerGapExpiry
  | powerGoodFall (i : SupplyId)
  | powerGoodRise (i : SupplyId)
  | qualifyTimerExpiry (i : SupplyId)
  | shedTimerExpiry
  | removalWindowExpiry (b : BayId)
  | locateTimerExpiry (p : Port) (b : BayId)
  | enclosureLocateExpiry (p : Port)
  | lightTestExpiry
  /-- The end of a control period of zone `z`: `sensors` are the eight board sensor inputs at that
  moment (`none` for an open input), `speeds` the tachometers of the zone's four fans over the
  period just ended. -/
  | controlPeriod (z : ZoneId) (sensors : Vector (Option Int) 8) (speeds : Vector (BitVec 16) 4)
  /-- The end of a load; `contacts` are the carrier code contacts of the sixty bays at that moment. -/
  | loadComplete (answer : LoadAnswer) (contacts : Vector ProfileId 60)
  | saveComplete (outcome : SaveOutcome)
  | saveTimeout (left : MemoryLeft)
  | planStep
  | waitTimeExpiry
  | breakEnd (p : Port)
  | buttonRelease (b : BayId)
  deriving DecidableEq, Repr

end Sys2Proof
end

