-- ==== Sys2Proof/Decode.lean ====
section
/-!
DEFINITION. The receiver of a port over the bytes of its line (9.1, 11.1, 11.2): which command a run
of bytes delivers. The command table gives its rows no bits, so no table word spells a command.
-/

namespace Sys2Proof

/-- The command a table word spells: none, since no row of the table gives bits. -/
def decodeTableWord (_nbits _w : Nat) : Option Instr := none

/-! ### Type codes (11.2) -/

/-- The TYPE codes that name a request (11.2). -/
def requestCodes : List Nat :=
  [0x01, 0x02, 0x03, 0x04, 0x05, 0x06, 0x07, 0x08, 0x09, 0x0A, 0x0B,
   0x10, 0x11, 0x12, 0x13, 0x14, 0x15, 0x16,
   0x20, 0x21, 0x22, 0x23, 0x24, 0x25, 0x26, 0x30, 0x31, 0x32, 0x33, 0x40, 0x41, 0x42, 0x43,
   0x50, 0x51, 0x52, 0x53, 0x54, 0x60, 0x61, 0x62, 0x63, 0x64, 0x65, 0x70, 0x71]

/-- The queries of 11.2. -/
def queryOf (p : Port) (tag : Byte) (pl : List Byte) : Nat → Option Instr
  | 0x01 => some (.identify p tag pl)
  | 0x02 => some (.status p tag pl)
  | 0x03 => some (.readChanges p tag pl)
  | 0x04 => some (.bayQuery p tag pl)
  | 0x05 => some (.queueQuery p tag pl)
  | 0x06 => some (.ledgerQuery p tag pl)
  | 0x07 => some (.zoneQuery p tag pl)
  | 0x08 => some (.lightQuery p tag pl)
  | 0x09 => some (.removalQuery p tag pl)
  | 0x0A => some (.readProfile p tag pl)
  | 0x0B => some (.readStep p tag pl)
  | _ => none

/-- The requests on bays, ports and lights of 11.2. -/
def bayRequestOf (p : Port) (tag : Byte) (pl : List Byte) : Nat → Option Instr
  | 0x10 => some (.powerOn p tag pl)
  | 0x11 => some (.powerOff p tag pl)
  | 0x12 => some (.prepareRemoval p tag pl)
  | 0x13 => some (.cancelRemoval p tag pl)
  | 0x14 => some (.clearFault p tag pl)
  | 0x15 => some (.declineAttention p tag pl)
  | 0x16 => some (.setBay p tag pl)
  | 0x20 => some (.claim p tag pl)
  | 0x21 => some (.release p tag pl)
  | 0x22 => some (.handover p tag pl)
  | 0x23 => some (.takeover p tag pl)
  | 0x24 => some (.sendNote p tag pl)
  | 0x25 => some (.readNote p tag pl)
  | 0x26 => some (.setPortSettings p tag pl)
  | 0x30 => some (.setIndication p tag pl)
  | 0x31 => some (.clearIndication p tag pl)
  | 0x32 => some (.enclosureLocate p tag pl)
  | 0x33 => some (.lightTest p tag pl)
  | _ => none

/-- The requests on cooling, settings, plans and the store of 11.2. -/
def settingRequestOf (p : Port) (tag : Byte) (pl : List Byte) : Nat → Option Instr
  | 0x40 => some (.reportDriveTemperatures p tag pl)
  | 0x41 => some (.setZone p tag pl)
  | 0x42 => some (.setCurve p tag pl)
  | 0x43 => some (.setSensorMap p tag pl)
  | 0x50 => some (.setProfile p tag pl)
  | 0x51 => some (.setScheduler p tag pl)
  | 0x52 => some (.setSupply p tag pl)
  | 0x53 => some (.setBudget p tag pl)
  | 0x54 => some (.setRemoval p tag pl)
  | 0x60 => some (.writeStep p tag pl)
  | 0x61 => some (.startPlan p tag pl)
  | 0x62 => some (.pausePlan p tag pl)
  | 0x63 => some (.resumePlan p tag pl)
  | 0x64 => some (.abortPlan p tag pl)
  | 0x65 => some (.checkPlan p tag pl)
  | 0x70 => some (.saveSettings p tag pl)
  | 0x71 => some (.restart p tag pl)
  | _ => none

/-- The command of a frame with a correct check (11.2); a TYPE that names no request is a command of
its own (R157). -/
def requestOf (p : Port) (kind tag : Byte) (pl : List Byte) : Instr :=
  match queryOf p tag pl kind.toNat with
  | some i => i
  | none => match bayRequestOf p tag pl kind.toNat with
    | some i => i
    | none => match settingRequestOf p tag pl kind.toNat with
      | some i => i
      | none => .unknownRequestType p kind tag pl

/-! ### Frames (11.1) -/

/-- The sync byte of a request. -/
def requestSync : Byte := 0xD5

/-- The sync byte of a reply. -/
def replySync : Byte := 0xD6

/-- The sum of a run of bytes modulo 256. -/
def byteSum (bs : List Byte) : Byte := bs.foldr (· + ·) 0

/-- The CHECK of the bytes from LENGTH to the last payload byte (11.1). -/
def checkByte (bs : List Byte) : Byte := -byteSum bs

/-- What a receiver that hunts makes of the bytes that reach it without a gap or a break (R153): the
command of the first frame they complete, if any, and the bytes after it. -/
def receive (p : Port) : List Byte → Option (Instr × List Byte)
  | [] => none
  | x :: rest =>
    if x = requestSync then
      match rest with
      | [] => none
      | len :: body =>
        if len.toNat < 2 ∨ 250 < len.toNat then some (.lengthOutOfRange p, body)
        else
          match body.take len.toNat, body.drop len.toNat with
          | kind :: tag :: pl, check :: after =>
            if byteSum (len :: kind :: tag :: (pl ++ [check])) = 0 then
              some (requestOf p kind tag pl, after)
            else some (.checkError p, after)
          | _, _ => none
    else receive p rest

/-! ### The frame of a command (11.1, 11.2) -/

/-- The port, TYPE, TAG and payload of a request. -/
def Instr.request : Instr → Option (Port × Byte × Byte × List Byte)
  | .identify p t pl => some (p, 0x01, t, pl)
  | .status p t pl => some (p, 0x02, t, pl)
  | .readChanges p t pl => some (p, 0x03, t, pl)
  | .bayQuery p t pl => some (p, 0x04, t, pl)
  | .queueQuery p t pl => some (p, 0x05, t, pl)
  | .ledgerQuery p t pl => some (p, 0x06, t, pl)
  | .zoneQuery p t pl => some (p, 0x07, t, pl)
  | .lightQuery p t pl => some (p, 0x08, t, pl)
  | .removalQuery p t pl => some (p, 0x09, t, pl)
  | .readProfile p t pl => some (p, 0x0A, t, pl)
  | .readStep p t pl => some (p, 0x0B, t, pl)
  | .powerOn p t pl => some (p, 0x10, t, pl)
  | .powerOff p t pl => some (p, 0x11, t, pl)
  | .prepareRemoval p t pl => some (p, 0x12, t, pl)
  | .cancelRemoval p t pl => some (p, 0x13, t, pl)
  | .clearFault p t pl => some (p, 0x14, t, pl)
  | .declineAttention p t pl => some (p, 0x15, t, pl)
  | .setBay p t pl => some (p, 0x16, t, pl)
  | .claim p t pl => some (p, 0x20, t, pl)
  | .release p t pl => some (p, 0x21, t, pl)
  | .handover p t pl => some (p, 0x22, t, pl)
  | .takeover p t pl => some (p, 0x23, t, pl)
  | .sendNote p t pl => some (p, 0x24, t, pl)
  | .readNote p t pl => some (p, 0x25, t, pl)
  | .setPortSettings p t pl => some (p, 0x26, t, pl)
  | .setIndication p t pl => some (p, 0x30, t, pl)
  | .clearIndication p t pl => some (p, 0x31, t, pl)
  | .enclosureLocate p t pl => some (p, 0x32, t, pl)
  | .lightTest p t pl => some (p, 0x33, t, pl)
  | .reportDriveTemperatures p t pl => some (p, 0x40, t, pl)
  | .setZone p t pl => some (p, 0x41, t, pl)
  | .setCurve p t pl => some (p, 0x42, t, pl)
  | .setSensorMap p t pl => some (p, 0x43, t, pl)
  | .setProfile p t pl => some (p, 0x50, t, pl)
  | .setScheduler p t pl => some (p, 0x51, t, pl)
  | .setSupply p t pl => some (p, 0x52, t, pl)
  | .setBudget p t pl => some (p, 0x53, t, pl)
  | .setRemoval p t pl => some (p, 0x54, t, pl)
  | .writeStep p t pl => some (p, 0x60, t, pl)
  | .startPlan p t pl => some (p, 0x61, t, pl)
  | .pausePlan p t pl => some (p, 0x62, t, pl)
  | .resumePlan p t pl => some (p, 0x63, t, pl)
  | .abortPlan p t pl => some (p, 0x64, t, pl)
  | .checkPlan p t pl => some (p, 0x65, t, pl)
  | .saveSettings p t pl => some (p, 0x70, t, pl)
  | .restart p t pl => some (p, 0x71, t, pl)
  | .unknownRequestType p kind t pl => some (p, kind, t, pl)
  | .checkError _ | .lengthOutOfRange _ | .overrunFrame _ | .gap _ | .breakBegin _ | .replyEnd _
  | .resetAssert | .resetRelease _ _ | .presenceArrives _ | .presenceLost _ | .pull _
  | .settleEnd _ _ | .buttonPress _ | .activityPulse _ | .activityDarkTimerExpiry _ | .startTrip _
  | .runTrip _ | .surgeWindowEnd _ | .backoffEnd _ | .stopWindowEnd _ | .staggerGapExpiry
  | .powerGoodFall _ | .powerGoodRise _ | .qualifyTimerExpiry _ | .shedTimerExpiry
  | .removalWindowExpiry _ | .locateTimerExpiry _ _ | .enclosureLocateExpiry _ | .lightTestExpiry
  | .controlPeriod _ _ _ | .loadComplete _ _ | .saveComplete _ | .saveTimeout _ | .planStep
  | .waitTimeExpiry | .breakEnd _ | .buttonRelease _ => none

/-- The frame of a request (11.1): sync, LENGTH, TYPE, TAG, payload, CHECK. -/
def frameOf (kind tag : Byte) (pl : List Byte) : List Byte :=
  let body := BitVec.ofNat 8 (pl.length + 2) :: kind :: tag :: pl
  requestSync :: body ++ [checkByte body]

/-- The port a request arrives on and the bytes of its frame; `none` for an event. -/
def Instr.frame (i : Instr) : Option (Port × List Byte) :=
  i.request.map fun r => (r.1, frameOf r.2.1 r.2.2.1 r.2.2.2)

end Sys2Proof
end

