-- ==== Sys2Proof/WellFormed.lean ====
section
/-!
DEFINITION. Which commands can arrive: the limits of a request frame (11.1) and of a TYPE that names
no request (R157).
-/

namespace Sys2Proof

/-- A payload fits a request frame: LENGTH is at most 250, so it holds 0–248 bytes (11.1). -/
def payloadFits (pl : List Byte) : Bool := pl.length ≤ 248

/-- A TYPE names no request (R157). -/
def namesNoRequest (kind : Byte) : Bool := kind.toNat ∉ requestCodes

/-- A command is well formed: its payload fits a frame, and an unknown TYPE is unknown. -/
def Instr.wf (i : Instr) : Bool :=
  match i with
  | .unknownRequestType _ kind _ pl => namesNoRequest kind && payloadFits pl
  | _ => match i.request with
    | none => true
    | some r => payloadFits r.2.2.2

end Sys2Proof
end

