-- ==== Sys2Proof/Machine/State.lean ====
section
/-!
DEFINITION. The state of the EB-60: every record, timer, flag, list and setting the manual gives its
eight blocks, the queue of waiting commands, and the state right after reset.
Timers are held in milliseconds remaining (silences and ages in milliseconds elapsed); a timer
holds 0 from the moment it is due until its expiry command is taken.
-/

namespace Sys2Proof.Machine

/-- The reasons a command can stop the machine. There is none: the manual gives every command an
effect in every state, if only to change nothing. Safe. -/
inductive Fault where
  deriving DecidableEq, Repr

/-- The reasons a command can be refused by the model. -/
inductive Refusal where
  /-- Raised by an arm of `exec` alone, for a command without a meaning (no arm does so). Safe. -/
  | notModelled (mnemonic : String)
  deriving DecidableEq, Repr

/-- The timer of a bay: at most one runs (R5, R23, R76), and each runs in one state only. -/
inductive BayTimer where
  | idle
  /-- The settle timer of a SETTLING bay (R5). -/
  | settle (ms : Nat)
  /-- A settle that has expired and waits for the end of LOADING (R6). -/
  | settled
  /-- The surge window of a STARTING bay (R38). -/
  | surge (ms : Nat)
  /-- The backoff timer of a BACKOFF bay (R43). -/
  | backoff (ms : Nat)
  /-- The stop window of a STOPPING bay (R46). -/
  | stop (ms : Nat)
  /-- The removal window of a REMOVABLE bay (R74). -/
  | removal (ms : Nat)
  deriving DecidableEq, Repr

/-- A locate timer, or an enclosure locate request (R84): idle or clear, indefinite, or running. -/
inductive LocateTimer where
  | idle
  | indefinite
  | running (ms : Nat)
  deriving DecidableEq, Repr

/-- A reported drive temperature and its age (R102, R103). -/
structure DriveTemp where
  value : Int
  ageMs : Nat
  deriving DecidableEq, Repr

/-- The bay record (R1), with the bay's switch enable (R23), timer, host indications (R89), locate
timers (R92), activity dark timer (R86) and button debouncer (R17). Zone, level, sheddable and
button enabled have their one home in `Settings.bays`. -/
structure Bay where
  state : BayState
  code : Option ProfileId
  profile : ProfileId
  override : Bool
  startMark : Bool
  attempts : Nat
  origin : Option Origin
  fault : Option FaultCause
  removalIntended : Bool
  wasPowered : Bool
  requeue : Bool
  attention : Bool
  lastEvent : LastEvent
  owner : Option Port
  temp : Option DriveTemp
  /-- The switch enable: `true` is closed. -/
  switch : Bool
  timer : BayTimer
  indications : PerPort IndSet
  locate : PerPort LocateTimer
  /-- The activity dark timer: idle, or running. -/
  dark : Option Nat
  /-- Whether the button has read released since its last press, so that a press can be taken. -/
  buttonArmed : Bool
  deriving DecidableEq, Repr

/-- An entry of the spin-up queue (R29). -/
structure Entry where
  bay : BayId
  level : Fin 8
  origin : Origin
  bypass : Nat
  deriving DecidableEq, Repr

/-- The runtime part of a supply record (R50): good, and the remaining qualify time. -/
structure Supply where
  good : Bool
  qualify : Option Nat
  deriving DecidableEq, Repr

/-- The totals of the budget computation (3.3). -/
structure Totals where
  gross : Nat
  usable : Nat
  fans : Nat
  allowance : Nat
  committed : Nat
  headroom : Int
  deriving DecidableEq, Repr

/-- The runtime part of a zone record (R99). -/
structure Zone where
  temp : Option Int
  curveInput : Option Int
  hold : Bool
  overheat : Bool
  blind : Bool
  degraded : Bool
  boost : Nat
  demand : Nat
  applied : Nat
  ceiling : Nat
  reservation : Nat
  /-- Time left of the present control period (R100). -/
  periodMs : Nat
  deriving DecidableEq, Repr

/-- A fan record (R99). -/
structure Fan where
  state : FanState
  speed : BitVec 16
  stallRun : Nat
  recoveryRun : Nat
  deriving DecidableEq, Repr

/-- The runtime part of a sensor record (R99). -/
structure Sensor where
  reading : Option Int
  valid : Bool
  deriving DecidableEq, Repr

/-- The four link flags of a port (R156). -/
structure LinkFlags where
  check : Bool
  gap : Bool
  brk : Bool
  overrun : Bool
  deriving DecidableEq, Repr

/-- The receiver of a port (R153). -/
inductive Receiver where
  /-- Waiting for a request sync; every other byte is discarded. -/
  | hunting
  /-- Inside a frame, with the bytes that have arrived since the sync: LENGTH, then what it counts. -/
  | collecting (bytes : List Byte)
  deriving DecidableEq, Repr

/-- A reply frame without its framing bytes (R171): TYPE with the high bit set, TAG, RESULT and
payload. -/
structure Reply where
  kind : Byte
  tag : Byte
  result : Result
  payload : List Byte
  deriving DecidableEq, Repr

/-- What the Port Controller and the Light Driver hold for one port (R97, R139, R153–R160). -/
structure PortState where
  /-- The receiver: hunting, or collecting a frame. -/
  receiver : Receiver
  flags : LinkFlags
  /-- The receive line is in a break: the receiver hunts, and takes no byte until the line is idle. -/
  inBreak : Bool
  /-- The reply of the outstanding request, until its check byte has been sent (R155). -/
  outstanding : Option Reply
  silenceMs : Nat
  /-- The note slot: empty, or 1–16 bytes. -/
  note : List Byte
  noteOverrun : Bool
  changes : List Obj
  /-- The attention output. -/
  attention : Bool
  /-- The port's enclosure locate request (R97). -/
  locate : LocateTimer
  deriving DecidableEq, Repr

/-- A step record of the plan table (R123); bay numbers are stored as written. -/
structure Step where
  action : StepAction
  bays : List Byte
  wait : Option Nat
  notify : Bool
  last : Bool
  next : SlotId
  result : StepResult
  refused : Nat
  deriving DecidableEq, Repr

/-- The wait timer of the Plan Engine (R126). -/
inductive WaitTimer where
  | idle
  | running (ms : Nat)
  | frozen (ms : Nat)
  deriving DecidableEq, Repr

/-- The plan table and the Plan Engine (R123, R126). -/
structure Plan where
  steps : Vector Step 32
  engine : EngineState
  outcome : Option PlanOutcome
  owner : Option Port
  current : Option SlotId
  /-- A WAIT step has begun and has not ended; the current step is else the step to be taken next. -/
  inProgress : Bool
  pendingSet : List BayId
  /-- The lost count, 0–60. -/
  lost : Nat
  wait : WaitTimer
  /-- The most recent step that ended with notify set, and the result it ended with (R134, log 31). -/
  notified : Option (SlotId × StepResult)
  deriving DecidableEq, Repr

/-- The settings state (10.2). LOADING records whether a RESTART began it, which decides the
start-up mark (R5, R7); SAVING records the state to return to and the snapshot (R168, R169). -/
inductive SettingsState where
  | loading (afterRestart : Bool)
  | ready
  | defaults
  | saving (formerReady : Bool) (snapshot : Settings)
  deriving DecidableEq, Repr

/-- The state of the EB-60. -/
structure State where
  /-- The commands that are waiting, first in, first out. -/
  pending : List Instr
  /-- The reset pin is held. -/
  resetHeld : Bool
  settings : Settings
  store : SettingsState
  /-- Time left of the bound on the load or save under way. -/
  storeMs : Nat
  /-- The image in the external memory; `none` where its sum does not agree. -/
  memory : Option Image
  saveResult : SaveResult
  bays : Vector Bay 60
  queue : List Entry
  /-- The stagger gap timer: ended, or running. -/
  gap : Option Nat
  supplies : Vector Supply 4
  totals : Totals
  overBudget : Bool
  redundancyLost : Bool
  collapse : Bool
  /-- The shed timer: idle, or running. -/
  shed : Option Nat
  zones : Vector Zone 4
  fans : Vector Fan 16
  sensors : Vector Sensor 8
  /-- The light frame position, 0–1999. -/
  frame : Nat
  /-- The light test timer: idle, or running. -/
  lightTest : Option Nat
  /-- The port whose role is CONTROLLING; the other is AUXILIARY (R139). -/
  controlling : Port
  ports : PerPort PortState
  plan : Plan
  deriving DecidableEq, Repr

/-- The empty indication set. -/
def IndSet.empty : IndSet :=
  { locate := false, failed := false, predicted := false, rebuild := false, hotspare := false }

/-- The bay record after power-on or the reset pin (R2), with its button debouncer (R17) and lights
(R84). -/
def Bay.reset : Bay :=
  { state := .empty, code := none, profile := 7, override := false, startMark := false,
    attempts := 0, origin := none, fault := none, removalIntended := false, wasPowered := false,
    requeue := false, attention := false, lastEvent := .none, owner := none, temp := none,
    switch := false, timer := .idle,
    indications := { a := IndSet.empty, b := IndSet.empty },
    locate := { a := .idle, b := .idle }, dark := none, buttonArmed := false }

/-- A zone after power-on or the reset pin (R100). -/
def Zone.reset : Zone :=
  { temp := none, curveInput := none, hold := false, overheat := false, blind := true,
    degraded := false, boost := 0, demand := 100, applied := 100, ceiling := 100,
    reservation := 100, periodMs := 1000 }

/-- A fan after power-on or the reset pin: RUNNING within the factory count of 3 (R100). Its measured
speed is DESIGN CHOICE 0 (log 5). -/
def Fan.reset (f : FanId) : Fan :=
  { state := if f.val % 4 < 3 then .running else .absent, speed := 0, stallRun := 0, recoveryRun := 0 }

/-- A step slot after power-on or the reset pin (R123). -/
def Step.reset : Step :=
  { action := .none, bays := [], wait := none, notify := false, last := false, next := 0,
    result := .pending, refused := 0 }

/-- The Plan Engine after power-on or the reset pin (R126, R134). -/
def Plan.reset : Plan :=
  { steps := Vector.replicate 32 Step.reset, engine := .idle, outcome := none, owner := none,
    current := none, inProgress := false, pendingSet := [], lost := 0, wait := .idle,
    notified := none }

/-- The 71 objects in the order of R159. -/
def Obj.all : List Obj :=
  (List.finRange 60).map .bay ++ (List.finRange 4).map .supply ++ (List.finRange 4).map .zone
    ++ [.enclosure, .plan, .note]

/-- A port after power-on or the reset pin (R139, R153, R156, R159, R160). DESIGN CHOICE (log 36): that no
request is outstanding, so that a reply being sent is cut off, and that the receive line is taken as in
no break, are the model's; R155 and R154 give neither for the reset pin. -/
def PortState.reset : PortState :=
  { receiver := .hunting, flags := { check := false, gap := false, brk := false, overrun := false },
    inBreak := false,
    outstanding := none, silenceMs := 0, note := [], noteOverrun := false, changes := Obj.all,
    attention := true, locate := .idle }

/-- The machine right after the release of the reset pin, in an empty drawer whose supplies 0 and 1
deliver power and whose supplies 2 and 3 do not; these line levels, and a memory that holds no good
image, are DESIGN CHOICES (log 4): the lines and the memory are the world's, and the command
RESET_RELEASE reads them as they are. The totals are those of 3.3 for these values. -/
def State.reset : State :=
  { pending := [], resetHeld := false, settings := Settings.factory, store := .loading false,
    storeMs := 300, memory := none, saveResult := .none,
    bays := Vector.replicate 60 Bay.reset, queue := [], gap := none,
    supplies := #v[{ good := true, qualify := none }, { good := true, qualify := none },
                   { good := false, qualify := none }, { good := false, qualify := none }],
    totals := { gross := 12000, usable := 10800, fans := 2400, allowance := 6900, committed := 0,
                headroom := 6900 },
    overBudget := false, redundancyLost := false, collapse := false, shed := none,
    zones := Vector.replicate 4 Zone.reset, fans := Vector.ofFn Fan.reset,
    sensors := Vector.replicate 8 { reading := none, valid := false },
    frame := 0, lightTest := none, controlling := .a,
    ports := { a := PortState.reset, b := PortState.reset }, plan := Plan.reset }

end Sys2Proof.Machine
end

