-- ==== Sys2Proof/Machine/Flags.lean ====
section
/-!
DEFINITION. Every flag the manual computes from other state: the good supplies, a zone's hold state,
the composition of the light elements (R87), the enclosure lights (R96, R97), the output lines, and
the flag bytes of the summaries (11.4, 11.5).
-/

namespace Sys2Proof.Machine

/-! ### Accessors -/

/-- The record of a bay. -/
def State.bay (s : State) (b : BayId) : Bay := s.bays.get b

/-- The saved settings of a bay. -/
def State.bayCfg (s : State) (b : BayId) : BaySettings := s.settings.bays.get b

/-- The profile a bay's profile index names, as it now stands (R8). -/
def State.profile (s : State) (b : BayId) : Profile := s.settings.profiles.get (s.bay b).profile

/-- What the part holds for a port. -/
def State.port (s : State) (p : Port) : PortState := s.ports.get p

/-- The settings of a zone. -/
def State.zoneCfg (s : State) (z : ZoneId) : ZoneSettings := s.settings.zones.get z

/-- The runtime record of a zone. -/
def State.zone (s : State) (z : ZoneId) : Zone := s.zones.get z

/-- All bays in ascending order. -/
def allBays : List BayId := List.finRange 60

/-- The number of bays in a state (QUEUE QUERY, LEDGER QUERY, R33). -/
def State.countIn (s : State) (st : BayState) : Nat := allBays.countP fun b => (s.bay b).state = st

/-! ### Settings state -/

/-- The settings state is LOADING. -/
def SettingsState.isLoading : SettingsState → Bool
  | .loading _ => true
  | _ => false

/-- The settings state is SAVING. -/
def SettingsState.isSaving : SettingsState → Bool
  | .saving _ _ => true
  | _ => false

/-- The code of a settings state (11.3). -/
def SettingsState.code : SettingsState → Nat
  | .loading _ => 0 | .ready => 1 | .defaults => 2 | .saving _ _ => 3

/-- The settings state is LOADING (R166). -/
def State.loading (s : State) : Bool := s.store.isLoading

/-! ### Zones, fans and supplies -/

/-- The fan with an index of a zone: zone × 4 + index. -/
def fanOf (z : ZoneId) (i : Fin 4) : FanId := ⟨z.val * 4 + i.val, by omega⟩

/-- The zone of a fan. -/
def zoneOfFan (f : FanId) : ZoneId := ⟨f.val / 4, by omega⟩

/-- A zone holds admissions while HOLD, OVERHEAT or BLIND is set (R117). -/
def Zone.holds (z : Zone) : Bool := z.hold || z.overheat || z.blind

/-- The zone of a bay holds admissions (R34). -/
def State.bayHeld (s : State) (b : BayId) : Bool := (s.zone (s.bayCfg b).zone).holds

/-- A configured fan of the zone is FAILED (R116). -/
def State.hasFailedFan (s : State) (z : ZoneId) : Bool :=
  (List.finRange 4).any fun i => (s.fans.get (fanOf z i)).state = .failed

/-- A supply counts as good when it is installed and its good field is good (R50). -/
def State.supplyGood (s : State) (i : SupplyId) : Bool :=
  (s.settings.supplies.get i).installed && (s.supplies.get i).good

/-- The supplies that count as good. -/
def State.goodSupplies (s : State) : List SupplyId := (List.finRange 4).filter s.supplyGood

/-! ### Sets of indications -/

/-- The union of two indication sets. -/
def IndSet.union (x y : IndSet) : IndSet :=
  { locate := x.locate || y.locate, failed := x.failed || y.failed,
    predicted := x.predicted || y.predicted, rebuild := x.rebuild || y.rebuild,
    hotspare := x.hotspare || y.hotspare }

/-- The indications of the first set that are not in the second. -/
def IndSet.minus (x y : IndSet) : IndSet :=
  { locate := x.locate && !y.locate, failed := x.failed && !y.failed,
    predicted := x.predicted && !y.predicted, rebuild := x.rebuild && !y.rebuild,
    hotspare := x.hotspare && !y.hotspare }

/-- The set names FAILED, PREDICTED, REBUILD or HOTSPARE, which are bound to the drive (R89). -/
def IndSet.driveBound (x : IndSet) : Bool := x.failed || x.predicted || x.rebuild || x.hotspare

/-- The set names an indication. -/
def IndSet.nonempty (x : IndSet) : Bool := x.locate || x.driveBound

/-- What stays of a set when the carrier leaves: LOCATE (R93). -/
def IndSet.locateOnly (x : IndSet) : IndSet := { IndSet.empty with locate := x.locate }

/-- The effective set of a bay: the union of its two sets (R89). -/
def Bay.effective (y : Bay) : IndSet := y.indications.a.union y.indications.b

/-! ### Lights (chapter 5) -/

/-- The green element, by bay state (R87). -/
def Bay.green (y : Bay) : Pattern :=
  match y.state with
  | .queued => .wink
  | .starting => .slow
  | .ready => .activity
  | .backoff | .stopping => .fast
  | .empty | .settling | .off | .removable | .fault => .off

/-- The amber element, first match (R87). -/
def Bay.amber (y : Bay) : Pattern :=
  if y.state = .fault then .on
  else if y.effective.failed then .on
  else if y.attention then .fast
  else if y.effective.predicted then .slow
  else if y.effective.rebuild then .wink
  else .off

/-- The blue element, first match (R87). -/
def Bay.blue (y : Bay) : Pattern :=
  if y.state = .removable then .on
  else if y.effective.locate then .slow
  else if y.effective.hotspare then .wink
  else .off

/-- The composed pattern of an element of a bay. -/
def Bay.pattern (y : Bay) : Element → Pattern
  | .green => y.green
  | .amber => y.amber
  | .blue => y.blue

/-- Whether an element showing a pattern is lit at a frame position, with or without its bay's
activity dark timer running (R85, R86). -/
def Pattern.lit (frame : Nat) (dark : Bool) : Pattern → Bool
  | .off => false
  | .on => true
  | .slow => frame % 1000 < 500
  | .fast => frame % 250 < 125
  | .wink => frame < 200
  | .activity => !dark

/-- The output of a bay's element: dark while the reset pin is held (R84), lit during a light test
(R95), and else as its pattern gives. -/
def State.elementLit (s : State) (b : BayId) (e : Element) : Bool :=
  !s.resetHeld && (s.lightTest.isSome || ((s.bay b).pattern e).lit s.frame (s.bay b).dark.isSome)

/-- Condition of R96: a bay is in FAULT. -/
def State.faultBay (s : State) : Bool := allBays.any fun b => (s.bay b).state = .fault

/-- Condition of R96: a fan is FAILED. -/
def State.faultFan (s : State) : Bool :=
  (List.finRange 16).any fun f => (s.fans.get f).state = .failed

/-- Condition of R96: a zone has OVERHEAT or BLIND set. -/
def State.faultZone (s : State) : Bool :=
  (List.finRange 4).any fun z => (s.zone z).overheat || (s.zone z).blind

/-- Condition of R96: a supply is installed and its good field is failed. -/
def State.faultSupply (s : State) : Bool :=
  (List.finRange 4).any fun i => (s.settings.supplies.get i).installed && !(s.supplies.get i).good

/-- The five conditions of the enclosure fault light, in the order of 11.5. -/
def State.faultConditions (s : State) : List Bool :=
  [s.faultBay, s.faultFan, s.faultZone, s.faultSupply, s.overBudget]

/-- The enclosure fault light by its conditions (R96). -/
def State.faultComposed (s : State) : Bool := s.faultConditions.any id

/-- The output of the enclosure fault light. -/
def State.faultLit (s : State) : Bool := !s.resetHeld && (s.lightTest.isSome || s.faultComposed)

/-- A locate timer or enclosure locate request is set. -/
def LocateTimer.isSet : LocateTimer → Bool
  | .idle => false
  | _ => true

/-- The pattern of the enclosure locate light (R97). -/
def State.locatePattern (s : State) : Pattern :=
  if s.ports.a.locate.isSet || s.ports.b.locate.isSet then .slow else .off

/-- The output of the enclosure locate light. -/
def State.locateLit (s : State) : Bool :=
  !s.resetHeld && (s.lightTest.isSome || s.locatePattern.lit s.frame false)

/-! ### Fan drive outputs -/

/-- The drive output of a fan: 100 while the reset pin is held (R100), 0 for an ABSENT fan, and else
the applied duty of its zone (R111). -/
def State.fanDrive (s : State) (f : FanId) : Nat :=
  if s.resetHeld then 100
  else if (s.fans.get f).state = .absent then 0
  else (s.zone (zoneOfFan f)).applied

/-! ### Flag bytes of the summaries -/

/-- The flags byte of a bay summary (11.4). -/
def bayFlags (y : Bay) (c : BaySettings) : Nat :=
  bits [y.removalIntended, y.wasPowered, y.requeue, y.attention, c.sheddable, c.buttonEnabled,
        y.override]

/-- The flags of a zone summary (11.4). -/
def Zone.flags (z : Zone) : Nat := bits [z.hold, z.overheat, z.blind, z.degraded]

/-- The flags of ZONE QUERY: bit 4 says that the zone holds admissions (11.5). -/
def Zone.queryFlags (z : Zone) : Nat := bits [z.hold, z.overheat, z.blind, z.degraded, z.holds]

/-- The enclosure flags (11.4). -/
def State.enclosureFlags (s : State) : Nat :=
  bits [s.overBudget, s.redundancyLost, s.collapse, s.lightTest.isSome]

/-- The link flags of STATUS (11.5). -/
def LinkFlags.toNat (f : LinkFlags) : Nat := bits [f.check, f.gap, f.brk, f.overrun]

/-- No link flag set. -/
def LinkFlags.clear : LinkFlags := { check := false, gap := false, brk := false, overrun := false }

/-- The step flags of a step record: notify in bit 0, last in bit 1 (R173). -/
def Step.flags (st : Step) : Nat := bits [st.notify, st.last]

end Sys2Proof.Machine
end

