-- ==== Sys2Proof/Machine/Ops.lean ====
section
/-!
DEFINITION. The shared operations of the EB-60, which the meanings of the commands are written over:
postings (R159), changes of a bay record (R3), the plan's pending set (R132), the Ledger's recompute
(R61), admission (R32–R39), stops and collapse (R46, R66), queue joins (R30), the removal protocol
(R72–R77), pulls and trips (R15, R43, R44), and the judgement of a request (R157).
-/

namespace Sys2Proof.Machine

/-! ### Change lists and attention outputs (R159, R160) -/

/-- Post an object to one port's list: it joins the tail unless it is in the list. -/
def PortState.post (o : Obj) (x : PortState) : PortState :=
  { x with changes := if o ∈ x.changes then x.changes else x.changes ++ [o], attention := true }

/-- Change what the part holds for one port. -/
def State.updPort (p : Port) (f : PortState → PortState) (s : State) : State :=
  { s with ports := s.ports.set p (f (s.port p)) }

/-- Post an object to one port's list. -/
def postTo (p : Port) (o : Obj) (s : State) : State := s.updPort p (·.post o)

/-- Post an object to both ports' lists. -/
def post (o : Obj) (s : State) : State := { s with ports := s.ports.map (·.post o) }

/-- Post an object if a condition holds. -/
def postIf (c : Bool) (o : Obj) (s : State) : State := if c then post o s else s

/-! ### Bay records -/

/-- The reportable fields of a bay (R3, 9.4). -/
structure BayReport where
  state : BayState
  owner : Option Port
  attention : Bool
  profile : ProfileId
  settings : BaySettings
  removalIntended : Bool
  wasPowered : Bool
  requeue : Bool
  lastEvent : LastEvent
  indications : PerPort IndSet
  deriving DecidableEq, Repr

/-- The reportable fields of a bay as they stand. -/
def State.report (s : State) (b : BayId) : BayReport :=
  let y := s.bay b
  { state := y.state, owner := y.owner, attention := y.attention, profile := y.profile,
    settings := s.bayCfg b, removalIntended := y.removalIntended, wasPowered := y.wasPowered,
    requeue := y.requeue, lastEvent := y.lastEvent, indications := y.indications }

/-- Write a bay record. -/
def setBay (b : BayId) (y : Bay) (s : State) : State := { s with bays := s.bays.set b y }

/-- Post a bay if a reportable field of it differs from what it was. -/
def postBay (b : BayId) (was : BayReport) (s : State) : State :=
  postIf (decide (s.report b ≠ was)) (.bay b) s

/-- The switch enable opens and what belongs to a powered bay is dropped: the drive temperature
(R103), and the running timer. -/
def Bay.unpowered (y : Bay) : Bay := { y with switch := false, temp := none, timer := .idle }

/-! ### The Plan Engine (chapter 7) -/

/-- The bay meets one of the conditions under which it stays in the pending set (R132). -/
def Bay.staysPending (y : Bay) : Bool :=
  match y.state with
  | .queued | .starting | .backoff => true
  | .stopping => y.requeue && y.origin = some .plan
  | _ => false

/-- The record of the current step. -/
def Plan.currentStep (pl : Plan) : Option Step := pl.current.map pl.steps.get

/-- A step ends with a result and a refused count (R128): the result is written, notify posts the
plan, and the engine goes on to the next step or, at the step with last set, to DONE. The slot and result of a
notified step are copied for the plan summary as they then stand: a later WRITE STEP into the slot
leaves the copy (R134 does not say which is shown; log 31). -/
def endStep (r : StepResult) (refused : Nat) (s : State) : State :=
  match s.plan.current with
  | none => s
  | some i =>
    let st := s.plan.steps.get i
    let pl := { s.plan with
      steps := s.plan.steps.set i { st with result := r, refused := refused }
      notified := if st.notify then some (i, r) else s.plan.notified
      inProgress := false }
    if st.last then
      post .plan { s with plan := { pl with
        engine := .done, outcome := some .complete, pendingSet := [], lost := 0 } }
    else
      postIf st.notify .plan { s with plan := { pl with current := some st.next } }

/-- A WAIT_SETTLED step ends: DONE, with the lost count, saturated at 8, as its refused count; the
set is emptied and the lost count returns to 0 (R133). -/
def endWaitSettled (s : State) : State :=
  endStep .done (min s.plan.lost 8) { s with plan := { s.plan with pendingSet := [], lost := 0 } }

/-- A WAIT_SETTLED step is in progress. -/
def Plan.awaitsSettled (pl : Plan) : Bool :=
  pl.inProgress && (pl.currentStep.map (·.action) = some .waitSettled)

/-- A bay of the pending set is STARTING with origin PLAN (R136, R137). -/
def State.planStarting (s : State) : Bool :=
  s.plan.pendingSet.any fun b => (s.bay b).state = .starting && (s.bay b).origin = some .plan

/-- An abort reaches DONE (R136, R137). -/
def finishAbort (s : State) : State :=
  post .plan { s with plan := { s.plan with
    engine := .done, outcome := some .aborted, pendingSet := [], lost := 0 } }

/-- A bay of the pending set that meets none of its conditions any longer leaves it, settled if it is
READY and lost otherwise (R132). The lost count has the values 0–60 (R126) and stays at 60 (log 24). -/
def depart (b : BayId) (s : State) : State :=
  if (s.bay b).staysPending then s
  else
    { s with plan := { s.plan with
      pendingSet := s.plan.pendingSet.erase b
      lost := if (s.bay b).state = .ready then s.plan.lost else min (s.plan.lost + 1) 60 } }

/-- What the Plan Engine takes up of a change of bay `b`: its departure from the pending set (R132),
the end of a WAIT_SETTLED step (R133), and the end of an abort (R137). -/
def planReview (b : BayId) (s : State) : State :=
  if b ∈ s.plan.pendingSet then
    let t := depart b s
    if t.plan.engine = .running && t.plan.awaitsSettled && t.plan.pendingSet.isEmpty then
      endWaitSettled t
    else if t.plan.engine = .aborting && !t.planStarting then finishAbort t
    else t
  else s

/-- A change of a bay record: it is written, posted if a reportable field changed, and reviewed by
the Plan Engine (R3). -/
def changeBay (b : BayId) (f : Bay → Bay) (s : State) : State :=
  planReview b (postBay b (s.report b) (setBay b (f (s.bay b)) s))

/-! ### The Ledger (chapter 3) -/

/-- The reservation of a bay (R59). -/
def State.reservation (s : State) (b : BayId) : Nat :=
  match (s.bay b).state with
  | .starting => (s.profile b).surge
  | .ready => (s.profile b).run
  | _ => 0

/-- The sum of the reservations of all bays (R59). -/
def State.committed (s : State) : Nat := (allBays.map s.reservation).sum

/-- Gross supply power and whether redundancy is lost (R55). -/
def State.gross (s : State) : Nat × Bool :=
  let caps := s.goodSupplies.map fun i => (s.settings.supplies.get i).capacity
  match s.settings.budget.reserve with
  | .none => (caps.sum, false)
  | .one => if 2 ≤ caps.length then (caps.sum - caps.foldr max 0, false) else (caps.sum, true)

/-- The reservation of one fan of rated draw `P` at duty `r`, rounded up (R57). -/
def fanReservation (P r : Nat) : Nat := ceilDiv (P * r * r * r) 1000000

/-- A zone's share of the fan reservation (R57). -/
def State.fanShare (s : State) (z : ZoneId) : Nat :=
  (s.zoneCfg z).fanCount * fanReservation (s.zoneCfg z).fanDraw (s.zone z).reservation

/-- The fan reservation F (R57). -/
def State.fanPower (s : State) : Nat := ((List.finRange 4).map s.fanShare).sum

/-- The seven stages of the budget computation (R55–R60). -/
def State.computeTotals (s : State) : Totals :=
  let g := s.gross.1
  let u := g * s.settings.budget.derate / 100
  let f := s.fanPower
  let a := u - s.settings.budget.base - f
  let k := s.committed
  { gross := g, usable := u, fans := f, allowance := a, committed := k,
    headroom := (a : Int) - (k : Int) }

/-- The shed timer follows the total-budget flag and the shed delay (R63): idle while the flag is
clear or the delay 0, started when it is idle with the flag set and the delay nonzero, and else left
running. -/
def shedTimer (total : Bool) (delay : Nat) (now : Option Nat) : Option Nat :=
  if !total || delay = 0 then none
  else match now with
    | none => some (delay * Config.secondMs)
    | some n => some n

/-- The Ledger recomputes (R61): the totals, the total-budget flag (R62) with the shed timer (R63),
and the redundancy lost flag (R55); a change of a flag posts the enclosure. -/
def recompute (s : State) : State :=
  let t := s.computeTotals
  let total : Bool := decide (t.allowance < t.committed)
  let lost := s.gross.2
  postIf (total != s.overBudget || lost != s.redundancyLost) .enclosure
    { s with totals := t, overBudget := total, redundancyLost := lost
             shed := shedTimer total s.settings.budget.shedDelay s.shed }

/-- A recompute has changed A or cleared the total-budget flag, each an admission opportunity (R32). -/
def ledgerOpens (was now : State) : Bool :=
  was.totals.allowance != now.totals.allowance || (was.overBudget && !now.overBudget)

/-! ### The spin-up queue (2.4) -/

/-- Place an entry at the end of its level group (R30). -/
def insertEnd (e : Entry) : List Entry → List Entry
  | [] => [e]
  | x :: q => if e.level < x.level then e :: x :: q else x :: insertEnd e q

/-- Place an entry at the front of its level group (R30). -/
def insertFront (e : Entry) : List Entry → List Entry
  | [] => [e]
  | x :: q => if e.level ≤ x.level then e :: x :: q else x :: insertFront e q

/-- Place an entry by its origin: SHED at the front of its level group, every other at the end. -/
def insertEntry (e : Entry) (q : List Entry) : List Entry :=
  if e.origin = .shed then insertFront e q else insertEnd e q

/-- Remove a bay's entry. -/
def removeEntry (b : BayId) (q : List Entry) : List Entry := q.filter fun e => e.bay ≠ b

/-- Put the queue in ascending level order, entries of one level keeping their order (R31). -/
def sortQueue (q : List Entry) : List Entry := q.foldl (fun acc e => insertEnd e acc) []

/-- Remove a bay's entry from the spin-up queue. -/
def dequeue (b : BayId) (s : State) : State := { s with queue := removeEntry b s.queue }

/-! ### Admission (2.5) -/

/-- The gate (R33). -/
def State.gateOpen (s : State) : Bool :=
  s.countIn .starting < s.settings.scheduler.startCap && s.gap.isNone && !s.loading && !s.overBudget

/-- An entry is eligible while its bay's zone holds no admissions (R34). -/
def State.eligible (s : State) (e : Entry) : Bool := !s.bayHeld e.bay

/-- The fit test: the surge draw of the bay's profile is at most the headroom (R33, R60). -/
def State.fits (s : State) (e : Entry) : Bool :=
  ((s.profile e.bay).surge : Int) ≤ s.totals.headroom

/-- An eligible entry has reached the bypass limit (R37). -/
def State.starved (s : State) (e : Entry) : Bool :=
  s.eligible e && s.settings.scheduler.bypassLimit ≤ e.bypass

/-- The starvation guard would be engaged at an opportunity taken now (R37, R49). -/
def State.guardEngaged (s : State) : Bool :=
  s.settings.scheduler.mode = .fill && s.queue.any s.starved

/-- A sole candidate, the first entry of the queue that meets a condition, is chosen if it fits
(R35, R37). -/
def chooseSole (s : State) (cond : Entry → Bool) : Option (Entry × List Entry) :=
  match s.queue.find? cond with
  | none => none
  | some e => if s.fits e then some (e, removeEntry e.bay s.queue) else none

/-- The scan of FILL mode (R36): the first eligible entry that fits, and the rest of the queue with
one bypass count more, saturated at 32, on each eligible entry passed before it. -/
def scanFill (s : State) : List Entry → Option (Entry × List Entry)
  | [] => none
  | e :: q =>
    if s.eligible e && s.fits e then some (e, q)
    else (scanFill s q).map fun r =>
      (r.1, (if s.eligible e then { e with bypass := min (e.bypass + 1) 32 } else e) :: r.2)

/-- The candidate of an opportunity at an open gate, and the queue its admission leaves (R35–R37). -/
def State.candidate (s : State) : Option (Entry × List Entry) :=
  match s.settings.scheduler.mode with
  | .strict => chooseSole s s.eligible
  | .fill => if s.guardEngaged then chooseSole s s.starved else scanFill s s.queue

/-- The bay record at admission (R38): STARTING, the switch closed, attempts used raised, the surge
window started. -/
def Bay.started (surgeTime : Nat) (y : Bay) : Bay :=
  { y with state := .starting, lastEvent := .admitted, switch := true, attempts := y.attempts + 1,
           timer := .surge (surgeTime * Config.tickMs) }

/-- The stagger gap timer started with a gap in ticks: a gap of 0 is ended at once (R39). -/
def gapTimer (ticks : Nat) : Option Nat := if ticks = 0 then none else some (ticks * Config.tickMs)

/-- An admission (R38), which leaves the queue `q`. -/
def startBay (b : BayId) (q : List Entry) (s : State) : State :=
  let t := changeBay b (Bay.started (s.profile b).surgeTime) { s with queue := q }
  recompute { t with gap := gapTimer t.settings.scheduler.gap }

/-- One choice of an opportunity: the admission it makes, if any. -/
def admitOne (s : State) : Option State :=
  if s.gateOpen then (s.candidate).map fun c => startBay c.1.bay c.2 s else none

/-- The choices of one opportunity, one after another until none is made (R39). -/
def admitAll : Nat → State → State
  | 0, s => s
  | n + 1, s =>
    match admitOne s with
    | none => s
    | some t => admitAll n t

/-- An admission opportunity (R32). Each admission takes an entry from the queue, so the length of
the queue bounds their number. -/
def opportunity (s : State) : State := admitAll s.queue.length s

/-- A recompute and the opportunities it gives (R61). -/
def ledgerEvent (s : State) : State :=
  let t := recompute s
  if ledgerOpens s t then opportunity t else t

/-- A change that takes a powered bay out of its state: its reservation is released, the Ledger
recomputes, and the leaving is an admission opportunity (R32, R59). -/
def leavePower (b : BayId) (f : Bay → Bay) (s : State) : State :=
  opportunity (recompute (changeBay b f s))

/-- A bay joins the spin-up queue with an origin (R30): its record becomes QUEUED after `f`, its
entry is created in the same step (R29), and the join is an admission opportunity. -/
def joinQueue (b : BayId) (o : Origin) (f : Bay → Bay) (s : State) : State :=
  let e : Entry := { bay := b, level := (s.bayCfg b).level, origin := o, bypass := 0 }
  opportunity (changeBay b (fun y => { f y with state := .queued, origin := some o, timer := .idle })
    { s with queue := insertEntry e s.queue })

/-! ### Stops, sheds and collapse (2.8, 3.5, 3.6) -/

/-- The bay record on entry into STOPPING (R46). -/
def Bay.stopped (stopTime : Nat) (o : Option Origin) (y : Bay) : Bay :=
  { y.unpowered with state := .stopping, attempts := 0, timer := .stop (stopTime * Config.tickMs)
                     requeue := o.isSome, origin := o }

/-- A stop that returns the bay to the queue: a shed or a collapse stop (R46). -/
def Bay.stoppedBack (stopTime : Nat) (o : Origin) (ev : LastEvent) (y : Bay) : Bay :=
  { y.stopped stopTime (some o) with lastEvent := ev }

/-- A collapse stops every STARTING or READY bay with origin RESTORE (R66). -/
def stopAll (s : State) : State :=
  allBays.foldl (fun t b =>
    if (t.bay b).state.powered then
      changeBay b (Bay.stoppedBack (t.profile b).stopTime .restore .collapse) t
    else t) s

/-- A bay is STARTING or READY. -/
def State.anyPowered (s : State) : Bool := allBays.any fun b => (s.bay b).state.powered

/-- The collapse flag follows the number of good supplies (R66, R67); a collapse stops every powered
bay. Each change of the flag posts the enclosure. -/
def judgeCollapse (s : State) : State :=
  if s.goodSupplies.isEmpty then
    if s.collapse then s else post .enclosure { stopAll s with collapse := true }
  else if s.collapse then post .enclosure { s with collapse := false }
  else s

/-- A change of the supplies: the collapse is judged and its stops made, then the Ledger recomputes,
then the opportunities follow: a change of A, a clearing flag, a bay leaving power (R61, R66). -/
def supplyEvent (s : State) : State :=
  let t := recompute (judgeCollapse s)
  if ledgerOpens s t || (s.anyPowered && !t.anyPowered) then opportunity t else t

/-- The bay the next shed would choose: of the READY sheddable bays the one of the highest level, and
of these the one of the highest number (R64). -/
def State.shedChoice (s : State) : Option BayId :=
  allBays.foldl (fun best b =>
    if (s.bay b).state = .ready && (s.bayCfg b).sheddable then
      match best with
      | none => some b
      | some c => if (s.bayCfg c).level ≤ (s.bayCfg b).level then some b else some c
    else best) none

/-! ### Power requests on one bay (R26, R27) -/

/-- What a request that puts a bay on the way to power finds (R26, R129). -/
inductive OnCase where
  /-- OFF: the bay is queued. -/
  | queue
  /-- STOPPING with neither flag: requeue on stop is set. -/
  | requeue
  /-- The bay is on power or on its way to it. -/
  | noChange
  | refuse
  deriving DecidableEq, Repr

/-- What POWER ON, an ON step or CHECK PLAN finds in a bay (R26, R129). -/
def Bay.onCase (y : Bay) : OnCase :=
  match y.state with
  | .off => .queue
  | .queued | .starting | .ready | .backoff => .noChange
  | .stopping => if y.removalIntended then .refuse else if y.requeue then .noChange else .requeue
  | .removable | .fault | .empty | .settling => .refuse

/-- The effect of POWER ON on one bay, with the origin it gives (R26). -/
def powerOnBay (o : Origin) (b : BayId) (s : State) : State × Option Result :=
  match (s.bay b).onCase with
  | .queue => (joinQueue b o (fun y => { y with lastEvent := .queued }) s, none)
  | .requeue => (changeBay b (fun y => { y with requeue := true, origin := some o }) s, none)
  | .noChange => (s, none)
  | .refuse => (s, some .wrongState)

/-- The bay record of a bay taken from the way to power to OFF (R27, R136). -/
def Bay.withdrawn (y : Bay) : Bay :=
  { y with state := .off, origin := none, attempts := 0, lastEvent := .stopped, timer := .idle }

/-- The effect of POWER OFF on one bay (R27). -/
def powerOffBay (b : BayId) (s : State) : State × Option Result :=
  match (s.bay b).state with
  | .queued => (changeBay b Bay.withdrawn (dequeue b s), none)
  | .backoff => (changeBay b Bay.withdrawn s, none)
  | .starting | .ready => (leavePower b (Bay.stopped (s.profile b).stopTime none) s, none)
  | .stopping => (changeBay b (fun y => { y with requeue := false, origin := none }) s, none)
  | .off | .removable | .fault => (s, none)
  | .empty | .settling => (s, some .wrongState)

/-! ### The removal protocol (chapter 4) -/

/-- The removal window started with a setting in seconds; 0 starts none (R74). -/
def removalTimer (seconds : Nat) : BayTimer :=
  if seconds = 0 then .idle else .removal (seconds * Config.secondMs)

/-- The bay record on entry into REMOVABLE (R74), with its was powered flag. -/
def Bay.removableNow (window : Nat) (powered : Bool) (y : Bay) : Bay :=
  { y with state := .removable, attempts := 0, origin := none, fault := none, attention := false,
           lastEvent := .removable, timer := removalTimer window, removalIntended := false,
           requeue := false, wasPowered := powered }

/-- A bay enters REMOVABLE (R74). -/
def enterRemovable (b : BayId) (powered : Bool) (s : State) : State :=
  changeBay b (Bay.removableNow s.settings.removal.window powered) s

/-- The effect of PREPARE REMOVAL on one bay (R72, R73), shared by the request, the REMOVE step and
the direct button action. -/
def prepareBay (b : BayId) (s : State) : State × Option Result :=
  match (s.bay b).state with
  | .starting | .ready =>
    (leavePower b (fun y => { y.stopped (s.profile b).stopTime none with
      removalIntended := true, wasPowered := true, attention := false }) s, none)
  | .queued => (enterRemovable b true (dequeue b s), none)
  | .off | .backoff | .fault => (enterRemovable b false s, none)
  | .stopping =>
    if (s.bay b).removalIntended then (s, none)
    else
      (changeBay b (fun y => { y with
        removalIntended := true, wasPowered := y.requeue, requeue := false, origin := none,
        attention := false }) s, none)
  | .removable => (s, none)
  | .empty | .settling => (s, some .wrongState)

/-- A bay leaves REMOVABLE by expiry or CANCEL REMOVAL (R77, R78): to the queue under RESTORE with
was powered set, else to OFF. -/
def leaveRemovable (b : BayId) (ev : LastEvent) (s : State) : State :=
  let f := fun y : Bay => { y with wasPowered := false, lastEvent := ev, timer := .idle }
  if s.settings.removal.expiry = .restore && (s.bay b).wasPowered then joinQueue b .restore f s
  else changeBay b (fun y => { f y with state := .off, origin := none }) s

/-! ### Carriers, trips and buttons -/

/-- The bay record on entry into EMPTY (R2, R15, R93); the owner, the located indications and the
timers of the lights stay. -/
def Bay.emptied (ev : LastEvent) (y : Bay) : Bay :=
  { y.unpowered with
    state := .empty, code := none, profile := 7, override := false, startMark := false,
    attempts := 0, origin := none, fault := none, removalIntended := false, wasPowered := false,
    requeue := false, attention := false, lastEvent := ev,
    indications := y.indications.map IndSet.locateOnly }

/-- The presence input of a bay goes to absent: a SETTLING bay returns to EMPTY (R5), and a bay from
OFF onward is pulled (R15). -/
def presenceGone (b : BayId) (s : State) : State :=
  match (s.bay b).state with
  | .empty => s
  | .settling => changeBay b (fun y => y.emptied y.lastEvent) s
  | .starting | .ready => leavePower b (Bay.emptied .removedLive) s
  | .stopping => changeBay b (Bay.emptied .removedLive) s
  | .queued => changeBay b (Bay.emptied .removed) (dequeue b s)
  | .off | .backoff | .removable | .fault => changeBay b (Bay.emptied .removed) s

/-- The bay record on entry into FAULT (R20). -/
def Bay.faulted (cause : FaultCause) (y : Bay) : Bay :=
  { y.unpowered with state := .fault, origin := none, fault := some cause, lastEvent := .faulted }

/-- The trip input of a bay becomes active: a start trip in STARTING (R43), a run trip in READY, and
ignored in any other state (R44). -/
def tripBay (b : BayId) (s : State) : State :=
  match (s.bay b).state with
  | .starting =>
    if (s.bay b).attempts ≤ (s.profile b).allowance then
      leavePower b (fun y => { y.unpowered with
        state := .backoff, lastEvent := .tripped
        timer := .backoff (s.settings.scheduler.backoff * Config.tickMs) }) s
    else leavePower b (Bay.faulted .startTrip) s
  | .ready => leavePower b (Bay.faulted .runTrip) s
  | _ => s

/-- Put a bay in SETTLING (R5); the start-up mark is set before the settings state first leaves
LOADING after power-on. -/
def settleStart (b : BayId) (s : State) : State :=
  changeBay b (fun y => { y with
    state := .settling, startMark := s.store = .loading false
    timer := .settle (s.settings.scheduler.settle * Config.tickMs) }) s

/-- The actions at the end of a settle (R6) and the policy that follows (R7). -/
def settleActions (b : BayId) (contacts : ProfileId) (s : State) : State :=
  let marked := (s.bay b).startMark
  let t := changeBay b (fun y => { y with
    state := .off, code := some contacts, profile := contacts, startMark := false, attempts := 0,
    lastEvent := .inserted, timer := .idle }) s
  if marked then
    if s.settings.scheduler.restart = .stage then joinQueue b .restart id t else t
  else
    if s.settings.scheduler.insertion = .auto then joinQueue b .insertion id t else t

/-- A settle that has expired is taken: its actions, or the wait for them while LOADING (R6). -/
def takeSettle (b : BayId) (contacts : ProfileId) (s : State) : State :=
  if s.loading then changeBay b (fun y => { y with timer := .settled }) s
  else settleActions b contacts s

/-- The settles of the SETTLING bays that `which` picks are taken, in ascending bay number (R6, R7). -/
def takeSettles (which : BayId → BayTimer → Bool) (contacts : Vector ProfileId 60) (s : State) : State :=
  allBays.foldl (fun t b =>
    if (t.bay b).state = .settling && which b (t.bay b).timer then takeSettle b (contacts.get b) t
    else t) s

/-- The states in which a carrier button press is acted on (R17, R18). -/
def BayState.takesPress : BayState → Bool
  | .off | .queued | .ready | .fault | .backoff => true
  | _ => false

/-- The effect of a press that is taken (R17, R18, R79); with button enabled clear it has none. -/
def pressBay (b : BayId) (s : State) : State :=
  if (s.bayCfg b).buttonEnabled && (s.bay b).state.takesPress then
    if s.settings.removal.action = .direct && (s.bay b).owner.isNone then
      (prepareBay b (changeBay b (fun y => { y with lastEvent := .button }) s)).1
    else changeBay b (fun y => { y with attention := true, lastEvent := .button }) s
  else s

/-! ### Cooling (chapter 6) -/

/-- Write a zone record. -/
def setZone (z : ZoneId) (x : Zone) (s : State) : State := { s with zones := s.zones.set z x }

/-- The effective ceiling and the reservation duty of a zone follow its configured ceiling, its
OVERHEAT flag and its applied duty (R106, R112). -/
def Zone.rated (ceiling : Nat) (x : Zone) : Zone :=
  let c := if x.overheat then 100 else ceiling
  { x with ceiling := c, reservation := max c x.applied }

/-- A fan of a zone after a change of the fan count (R113). -/
def Fan.recount (count : Nat) (i : Nat) (f : Fan) : Fan :=
  if i < count then
    if f.state = .absent then { f with state := .running, stallRun := 0, recoveryRun := 0 } else f
  else { f with state := .absent, stallRun := 0, recoveryRun := 0 }

/-- The states of a zone's four fans. -/
def State.fanStates (s : State) (z : ZoneId) : List FanState :=
  (List.finRange 4).map fun i => (s.fans.get (fanOf z i)).state

/-- Replace a zone's four fans by index. -/
def updFans (z : ZoneId) (g : Fin 4 → Fan → Fan) (s : State) : State :=
  { s with fans := Vector.ofFn fun f : FanId =>
      if f.val / 4 = z.val then g ⟨f.val % 4, by omega⟩ (s.fans.get f) else s.fans.get f }

/-- The fan count of a zone acts (R113): the fans change state and DEGRADED is judged (R116); the zone
is posted if a fan state or the flag changed. -/
def recountFans (z : ZoneId) (s : State) : State :=
  let t := updFans z (fun i f => f.recount (s.zoneCfg z).fanCount i.val) s
  let u := setZone z { t.zone z with degraded := t.hasFailedFan z } t
  postIf (decide (u.fanStates z ≠ s.fanStates z) || (u.zone z).degraded != (s.zone z).degraded)
    (.zone z) u

/-- A sensor whose map entry is NONE is not read, and its reading is absent (R101, R121). That it is then
not valid either is the model's choice (log 33). -/
def dropUnmapped (s : State) : State :=
  { s with sensors := Vector.ofFn fun i : SensorId =>
      if (s.settings.sensorMap.get i).isNone then { reading := none, valid := false }
      else s.sensors.get i }

/-! ### Settings in force -/

/-- The button enabled setting of a bay has been written: while it is no, the attention request is
held clear (R18). -/
def Bay.heldAttention (enabled : Bool) (y : Bay) : Bay :=
  { y with attention := y.attention && enabled }

/-! ### Rights (8.2) -/

/-- The owner-class rights of a requester on a bay (R143). -/
def State.mayAct (s : State) (p : Port) (b : BayId) : Bool :=
  match (s.bay b).owner with
  | none => s.controlling = p
  | some q => q = p

/-- The rights of a plan step, or of CHECK PLAN, on a bay (R129): refused only where the other port
owns it. -/
def State.planMayAct (s : State) (owner : Option Port) (b : BayId) : Bool :=
  match (s.bay b).owner with
  | none => true
  | some q => some q = owner

/-! ### Requests (chapter 9) -/

/-- The class of a request (8.2), and whether it is answered during LOADING (R157). -/
inductive RightsClass where
  /-- IDENTIFY and STATUS: any port, and answered in every settings state. -/
  | always
  /-- Any port; owner-class requests too, which are judged bay by bay. -/
  | anyPort
  /-- Reserved to the CONTROLLING port. -/
  | controlling
  deriving DecidableEq, Repr

/-- What a request comes to: the state it leaves, its RESULT and its reply payload. -/
structure Answer where
  state : State
  result : Result
  payload : List Byte

/-- A request refused whole: nothing changes and the reply carries no payload (R171). -/
def refuse (r : Result) (s : State) : Answer := { state := s, result := r, payload := [] }

/-- The reply frame begins: the request is outstanding from here until REPLY_END (R155, R171). -/
def sendReply (p : Port) (code : Nat) (tag : Byte) (a : Answer) : State :=
  a.state.updPort p fun x => { x with
    outstanding := some { kind := byte code ||| 0x80, tag := tag, result := a.result,
                          payload := a.payload } }

/-- A frame on a port cannot arrive: the part is in reset, or the line is in a break (R154). -/
def State.deaf (s : State) (p : Port) : Bool := s.resetHeld || (s.port p).inBreak

/-- A frame with a correct check is complete: the receiver is hunting, and the port's silence timer
restarts (R148, R153). -/
def hear (p : Port) (s : State) : State :=
  s.updPort p fun x => { x with receiver := .hunting, silenceMs := 0 }

/-- A frame that completes while a request is outstanding is discarded, and sets the overrun flag
(R155). -/
def markOverrun (p : Port) (s : State) : State :=
  s.updPort p fun x => { x with flags := { x.flags with overrun := true } }

/-- A request frame of TYPE `code` with a correct check, judged in the order of R157 once it is taken
(R153, R155): length, LOADING, class, and then its own section `act`. `args` is what the payload
reader made of the payload. -/
def request {α : Type} (cls : RightsClass) (code : Nat) (p : Port) (tag : Byte) (args : Option α)
    (act : α → State → Answer) (s : State) : State :=
  if s.deaf p then s
  else
    let t := hear p s
    if (t.port p).outstanding.isSome then markOverrun p t
    else sendReply p code tag <|
      match args with
      | none => refuse .badLength t
      | some a =>
        if t.loading && cls != .always then refuse .starting t
        else if cls = .controlling && t.controlling != p then refuse .notControlling t
        else act a t

/-- An event the part takes unless it is held in reset. -/
def event (f : State → State) (s : State) : State := if s.resetHeld then s else f s

/-! ### Multi-bay requests (R158) -/

/-- The bays of a list taken one after another: the state left and the refused bays with their
codes. A number above 59 is refused BAD_VALUE for that bay alone. -/
def takeBays (act : BayId → State → State × Option Result) :
    List Byte → State → State × List (Byte × Result)
  | [], s => (s, [])
  | x :: rest, s =>
    let r : State × Option Result :=
      match bayOf x with
      | none => (s, some .badValue)
      | some b => act b s
    let q := takeBays act rest r.1
    (q.1, match r.2 with | none => q.2 | some c => (x, c) :: q.2)

/-- The RESULT of a multi-bay request of `n` bays from its refused bays (R158). -/
def listResult (n : Nat) : List (Byte × Result) → Result
  | [] => .ok
  | (_, c) :: rest => if rest.length + 1 = n && rest.all (fun q => q.2 = c) then c else .partly

/-- The refused-bay list of R172. -/
def refusedList (r : List (Byte × Result)) : List Byte :=
  byte r.length :: r.flatMap fun q => [q.1, byte q.2.code]

/-- A multi-bay request: its bays taken in list order, and its reply (R158, R172). -/
def multiBay (act : BayId → State → State × Option Result) (bays : List Byte) (s : State) : Answer :=
  let r := takeBays act bays s
  { state := r.1, result := listResult bays.length r.2, payload := refusedList r.2 }

/-- An owner-class action on one bay: the rights come before the bay's state (R143). -/
def owned (p : Port) (act : BayId → State → State × Option Result) (b : BayId) (s : State) :
    State × Option Result :=
  if s.mayAct p b then act b s else (s, some .notOwner)

/-! ### The passage of time -/

/-- A timer that counts down 1 ms; it holds 0 from the moment it is due. -/
def countDown : Option Nat → Option Nat
  | none => none
  | some n => some (n - 1)

/-- A bay's timer after 1 ms. -/
def BayTimer.elapse : BayTimer → BayTimer
  | .idle => .idle
  | .settle n => .settle (n - 1)
  | .settled => .settled
  | .surge n => .surge (n - 1)
  | .backoff n => .backoff (n - 1)
  | .stop n => .stop (n - 1)
  | .removal n => .removal (n - 1)

/-- A locate timer after 1 ms. -/
def LocateTimer.elapse : LocateTimer → LocateTimer
  | .idle => .idle
  | .indefinite => .indefinite
  | .running n => .running (n - 1)

/-- The plan's wait timer after 1 ms: it counts while the engine is RUNNING (R131). -/
def WaitTimer.elapse : WaitTimer → WaitTimer
  | .idle => .idle
  | .running n => .running (n - 1)
  | .frozen n => .frozen n

/-- A drive temperature 1 ms older, its age saturating at 65535 s (R103). -/
def DriveTemp.elapse (d : DriveTemp) : DriveTemp :=
  { d with ageMs := min (d.ageMs + 1) (Config.saturatedSeconds * Config.secondMs) }

/-- A bay record after 1 ms. -/
def Bay.elapse (y : Bay) : Bay :=
  { y with timer := y.timer.elapse, locate := y.locate.map LocateTimer.elapse
           dark := countDown y.dark, temp := y.temp.map DriveTemp.elapse }

/-- A port after 1 ms: the silence timer saturates at 65535 s (R148). -/
def PortState.elapse (x : PortState) : PortState :=
  { x with silenceMs := min (x.silenceMs + 1) (Config.saturatedSeconds * Config.secondMs)
           locate := x.locate.elapse }

/-- One millisecond passes and no command is taken: every timer counts and the light frame advances.
No expiry is acted on here; each is a command of its own. In reset nothing counts. -/
def elapse (s : State) : State :=
  if s.resetHeld then s
  else
    { s with
      bays := s.bays.map Bay.elapse
      gap := countDown s.gap
      supplies := s.supplies.map fun x => { x with qualify := countDown x.qualify }
      shed := countDown s.shed
      zones := s.zones.map fun z => { z with periodMs := z.periodMs - 1 }
      frame := (s.frame + 1) % Config.frameMs
      lightTest := countDown s.lightTest
      storeMs := s.storeMs - 1
      ports := s.ports.map PortState.elapse
      plan := { s.plan with wait := s.plan.wait.elapse } }

end Sys2Proof.Machine
end

