-- ==== Sys2Proof/Machine/Reports.lean ====
section
/-!
DEFINITION. What the part reports: the summaries of the 71 objects (11.4) and the payloads of the
query replies (11.5), as bytes.
-/

namespace Sys2Proof.Machine

/-! ### Remaining times -/

/-- Remaining whole seconds, rounded up (R76, R98). -/
def secondsLeft (ms : Nat) : Nat := ceilDiv ms Config.secondMs

/-- Remaining ticks; a part of a tick is rounded as Config leaves open (log 8). -/
def ticksLeft (ms : Nat) : Nat :=
  if ms % Config.tickMs = 0 then ms / Config.tickMs
  else if Config.ticksRoundUp then ms / Config.tickMs + 1 else ms / Config.tickMs

/-- Remaining whole seconds of the shed timer; a part of a second is rounded as Config leaves open
(log 8). -/
def shedSecondsLeft (ms : Nat) : Nat :=
  if ms % Config.secondMs = 0 then ms / Config.secondMs
  else if Config.shedSecondsRoundUp then ms / Config.secondMs + 1 else ms / Config.secondMs

/-- Silence in whole seconds, rounded down and saturating (R148). -/
def PortState.silence (x : PortState) : Nat :=
  min (x.silenceMs / Config.secondMs) Config.saturatedSeconds

/-- The age of a drive temperature in whole seconds (R103). -/
def DriveTemp.age (d : DriveTemp) : Nat := min (d.ageMs / Config.secondMs) Config.saturatedSeconds

/-- A locate timer as a 2-byte remaining time: 0 idle, 0xFFFF indefinite (R173). -/
def LocateTimer.report : LocateTimer → List Byte
  | .idle => le16 0
  | .indefinite => le16 0xFFFF
  | .running n => le16 (secondsLeft n)

/-! ### Summaries (11.4) -/

/-- The bay summary. -/
def State.baySummary (s : State) (b : BayId) : List Byte :=
  let y := s.bay b
  let c := s.bayCfg b
  [byte b.val, byte y.state.code, byte (portCode y.owner), optByte (y.code.map (·.val)),
   byte y.profile.val, byte c.level.val, byte c.zone.val, byte (bayFlags y c),
   byte y.lastEvent.code, byte y.effective.toNat]

/-- The position of a bay's entry in the queue and its bypass count. -/
def queueFind (b : BayId) : Nat → List Entry → Option (Nat × Nat)
  | _, [] => none
  | n, e :: q => if e.bay = b then some (n, e.bypass) else queueFind b (n + 1) q

/-- The full record of BAY QUERY. -/
def State.bayRecord (s : State) (b : BayId) : List Byte :=
  let y := s.bay b
  let q := queueFind b 0 s.queue
  s.baySummary b ++
    [optByte (y.origin.map Origin.code), optByte (y.fault.map FaultCause.code), byte y.attempts,
     byte (boolNat y.startMark), tempByte (y.temp.map (·.value))] ++
    (match y.temp with | none => le16 Config.absentAge.toNat | some d => le16 d.age) ++
    [optByte (q.map (·.1)), optByte (q.map (·.2)), byte y.indications.a.toNat,
     byte y.indications.b.toNat]

/-- The supply summary. -/
def State.supplySummary (s : State) (i : SupplyId) : List Byte :=
  let c := s.settings.supplies.get i
  byte (boolNat c.installed) :: le16 c.capacity ++ [byte (boolNat (s.supplies.get i).good)]

/-- The fan states of a zone, two bits a fan, index 0 lowest. -/
def State.fanBits (s : State) (z : ZoneId) : Nat :=
  (s.fanStates z).foldr (fun st acc => st.code + 4 * acc) 0

/-- The zone summary. -/
def State.zoneSummary (s : State) (z : ZoneId) : List Byte :=
  let x := s.zone z
  [byte x.flags, byte (s.fanBits z), tempByte x.temp, byte x.applied, byte x.reservation]

/-- The enclosure summary. -/
def State.enclosureSummary (s : State) : List Byte :=
  [byte s.store.code, byte s.saveResult.code, byte s.enclosureFlags,
   byte (portCode (some s.controlling))]

/-- The plan summary (R134), with the most recent notified step and the result it ended with; that a
result rewritten since is not shown is the model's choice (log 31). -/
def State.planSummary (s : State) : List Byte :=
  let pl := s.plan
  [byte pl.engine.code, optByte (pl.outcome.map PlanOutcome.code), optByte (pl.current.map (·.val)),
   optByte (pl.notified.map (·.1.val)), optByte (pl.notified.map (·.2.code))]

/-- The note summary of a port (R152). -/
def PortState.noteSummary (x : PortState) : List Byte :=
  [byte x.note.length, byte (boolNat x.noteOverrun)]

/-- The summary of an object, as port `p` reads it. -/
def State.summary (s : State) (p : Port) : Obj → List Byte
  | .bay b => s.baySummary b
  | .supply i => s.supplySummary i
  | .zone z => s.zoneSummary z
  | .enclosure => s.enclosureSummary
  | .plan => s.planSummary
  | .note => (s.port p).noteSummary

/-- The kind and index of an object in a READ CHANGES entry (R174). -/
def Obj.kindIndex : Obj → Nat × Nat
  | .bay b => (0, b.val)
  | .supply i => (1, i.val)
  | .zone z => (2, z.val)
  | .enclosure => (3, 0)
  | .plan => (4, 0)
  | .note => (5, 0)

/-- An entry of the READ CHANGES reply: kind, index, summary length, summary (R174). -/
def State.changeEntry (s : State) (p : Port) (o : Obj) : List Byte :=
  let m := s.summary p o
  byte o.kindIndex.1 :: byte o.kindIndex.2 :: byte m.length :: m

/-! ### Settings blocks (11.2) -/

/-- The profile block. -/
def Profile.block (p : Profile) : List Byte :=
  le16 p.surge ++ le16 p.surgeTime ++ le16 p.run ++ [byte p.boost, byte p.allowance]
    ++ le16 p.stopTime

/-- The scheduler block. -/
def SchedulerSettings.block (c : SchedulerSettings) : List Byte :=
  [byte c.mode.code, byte c.startCap, byte c.gap, byte c.bypassLimit, byte c.settle, byte c.backoff,
   byte c.insertion.code, byte c.restart.code]

/-- The zone settings block. -/
def ZoneSettings.block (c : ZoneSettings) : List Byte :=
  [byte c.floor, byte c.ceiling, byte c.failsafe, byte c.hysteresis, byte c.slewUp,
   byte c.slewDown, tempByte (some c.hold), tempByte (some c.critical), byte c.fanCount]
    ++ le16 c.fanDraw ++ le16 c.stallSpeed

/-- The budget settings in the order of 11.2. -/
def BudgetSettings.block (c : BudgetSettings) : List Byte :=
  [byte c.reserve.code, byte c.derate] ++ le16 c.base ++ [byte c.shedDelay]

/-- The removal settings in the order of 11.2. -/
def RemovalSettings.block (c : RemovalSettings) : List Byte :=
  le16 c.window ++ [byte c.expiry.code, byte c.action.code]

/-- The port settings in the order of 11.2. -/
def PortSettings.block (c : PortSettings) : List Byte :=
  [byte (portCode (some c.preferred)), byte c.silenceLimit]

/-- The sensor map and the staleness limit in the order of 11.2. -/
def Settings.sensorBlock (c : Settings) : List Byte :=
  c.sensorMap.toList.map (fun e => byte (mapEntryCode e)) ++ le16 c.staleness

/-- The points of a curve, a temperature and a duty each. -/
def curveBytes (ps : List (Int × Nat)) : List Byte :=
  ps.flatMap fun q => [tempByte (some q.1), byte q.2]

/-! ### Query replies (11.5) -/

/-- IDENTIFY (R162). -/
def identifyReport : List Byte :=
  le16 Config.vendorCode ++ le16 Config.partCode ++
    [byte Config.revision, byte 60, byte 4, byte 16, byte 4, byte 8]

/-- STATUS (R163). -/
def State.statusReport (s : State) (p : Port) : List Byte :=
  let x := s.port p
  [byte (boolNat (s.controlling = p)), byte x.flags.toNat, byte x.changes.length,
   byte x.note.length, byte (boolNat x.noteOverrun), byte s.store.code,
   byte (bits [s.overBudget, s.redundancyLost])] ++ le16 (s.port p.peer).silence

/-- The bays of a run from a first bay: at most `count` clamped to 1–20, none above 59 (R22, R98). -/
def bayRun (first : BayId) (count : Nat) : List BayId :=
  (allBays.drop first.val).take (clamp 1 20 count)

/-- BAY QUERY in SUMMARY form (R22). -/
def State.summaryReport (s : State) (first : BayId) (count : Nat) : List Byte :=
  let run := bayRun first count
  byte run.length :: run.flatMap s.baySummary

/-- A queue entry of QUEUE QUERY (R49). -/
def State.entryReport (s : State) (e : Entry) : List Byte :=
  [byte e.bay.val, byte e.level.val, byte e.origin.code, byte e.bypass,
   byte (boolNat (s.bayHeld e.bay))]

/-- QUEUE QUERY (R49). -/
def State.queueReport (s : State) (start : Nat) : List Byte :=
  let es := (s.queue.drop start).take 40
  s.settings.scheduler.block ++
    [byte s.queue.length, byte (s.countIn .starting), byte (boolNat s.gap.isSome),
     byte (boolNat s.guardEngaged), byte es.length] ++ es.flatMap s.entryReport

/-- LEDGER QUERY (R69). -/
def State.ledgerReport (s : State) : List Byte :=
  ((List.finRange 4).flatMap fun i =>
    s.supplySummary i ++ [byte (boolNat (s.supplies.get i).qualify.isSome)]) ++
  s.settings.budget.block ++
  le32 s.totals.gross ++ le32 s.totals.usable ++ le16 s.totals.fans ++ le32 s.totals.allowance ++
  le32 s.totals.committed ++ le32Int s.totals.headroom ++
  ((List.finRange 4).flatMap fun z => byte (s.zone z).reservation :: le16 (s.fanShare z)) ++
  [byte (bits [s.overBudget, s.redundancyLost, s.collapse]),
   optByte (s.shed.map shedSecondsLeft), byte (s.countIn .starting), byte (s.countIn .ready),
   byte (allBays.countP fun b => (s.bay b).state = .ready && (s.bayCfg b).sheddable),
   optByte (s.shedChoice.map (·.val))]

/-- A bay of the zone whose drive temperature counts as fresh, or as stale, by its age and the staleness
limit as they stand. The manual judges this at a control period (R103, R105, R121); that ZONE QUERY
judges by the moment of the query is the model's choice (log 34). -/
def State.tempOf (s : State) (z : ZoneId) (fresh : Bool) (b : BayId) : Option Int :=
  if (s.bayCfg b).zone = z && (s.bay b).state.powered then
    match (s.bay b).temp with
    | none => none
    | some d => if (d.age ≤ s.settings.staleness : Bool) == fresh then some d.value else none
  else none

/-- The highest of a list of temperatures. -/
def hottest : List Int → Option Int
  | [] => none
  | t :: rest => match hottest rest with
    | none => some t
    | some u => some (max t u)

/-- The bay ZONE QUERY names with the highest fresh temperature, and that temperature; among bays
that share it Config decides (log 10). -/
def State.hottestBay (s : State) (z : ZoneId) : Option (BayId × Int) :=
  match hottest (allBays.filterMap (s.tempOf z true)) with
  | none => none
  | some t =>
    let ties := allBays.filter fun b => s.tempOf z true b = some t
    match ties with
    | [] => none
    | b :: [] => some (b, t)
    | b :: _ => some (ties.getD (Config.hottestTie ties % ties.length) b, t)

/-- ZONE QUERY (R122). -/
def State.zoneReport (s : State) (z : ZoneId) : List Byte :=
  let c := s.zoneCfg z
  let x := s.zone z
  let hot := s.hottestBay z
  c.block ++ [byte c.curve.length] ++ ((curveBytes c.curve) ++ List.replicate 12 0).take 12 ++
  [tempByte x.temp, tempByte x.curveInput, byte x.boost, byte x.demand, byte x.applied,
   byte x.ceiling, byte x.reservation] ++ le16 (s.fanShare z) ++ [byte x.queryFlags] ++
  ((List.finRange 4).flatMap fun i =>
    let f := s.fans.get (fanOf z i)
    byte f.state.code :: le16 f.speed.toNat ++ [byte f.stallRun, byte f.recoveryRun]) ++
  ((List.finRange 8).flatMap fun i =>
    let q := s.sensors.get i
    [byte (mapEntryCode (s.settings.sensorMap.get i)), tempByte q.reading,
     byte (boolNat q.valid)]) ++
  [byte (allBays.countP fun b => (s.tempOf z true b).isSome),
   byte (allBays.countP fun b => (s.tempOf z false b).isSome),
   optByte (hot.map (·.1.val)), tempByte (hot.map (·.2))] ++ le16 s.settings.staleness

/-- The lit byte of the enclosure fault light in LIGHT QUERY (log 13). -/
def State.faultLitReport (s : State) : Bool :=
  s.faultComposed || (s.lightTest.isSome && Config.queryShowsTest)

/-- The lit byte of the enclosure locate light in LIGHT QUERY (log 13). -/
def State.locateLitReport (s : State) : Bool :=
  if s.locatePattern = .slow then
    s.locatePattern.lit s.frame false || Config.queryLocateDarkHalf
      || (s.lightTest.isSome && Config.queryShowsTest)
  else s.lightTest.isSome && Config.queryShowsTest

/-- A bay of LIGHT QUERY. -/
def State.lightEntry (s : State) (b : BayId) : List Byte :=
  let y := s.bay b
  [byte b.val, byte y.green.code, byte y.amber.code, byte y.blue.code] ++ y.locate.a.report ++
    y.locate.b.report

/-- LIGHT QUERY (R98). -/
def State.lightReport (s : State) (first : BayId) (count : Nat) : List Byte :=
  let run := bayRun first count
  le16 s.frame ++
    [byte ((s.lightTest.map ticksLeft).getD 0), byte (boolNat s.faultLitReport),
     byte (bits s.faultConditions), byte (boolNat s.locateLitReport)] ++
    s.ports.a.locate.report ++ s.ports.b.locate.report ++
    byte run.length :: run.flatMap s.lightEntry

/-- A bay is in the removal protocol (R83). -/
def Bay.inProtocol (y : Bay) : Bool :=
  y.state = .removable || (y.state = .stopping && y.removalIntended)

/-- A bay of REMOVAL QUERY (R83): window seconds for a REMOVABLE bay, stop window ticks for a STOPPING
one. -/
def State.removalEntry (s : State) (b : BayId) : List Byte :=
  let y := s.bay b
  [byte b.val, byte y.state.code, byte (boolNat y.wasPowered)] ++
    match y.timer with
    | .removal n => le16 (secondsLeft n)
    | .stop n => le16 (ticksLeft n)
    | _ => le16 0xFFFF

/-- REMOVAL QUERY (R83). -/
def State.removalReport (s : State) (start : Nat) : List Byte :=
  let all := allBays.filter fun b => (s.bay b).inProtocol
  let es := (all.drop start).take 40
  s.settings.removal.block ++ [byte all.length, byte es.length] ++ es.flatMap s.removalEntry

/-- READ PROFILE (R10). -/
def State.profileReport (s : State) (i : ProfileId) : List Byte :=
  (s.settings.profiles.get i).block ++
    [byte (allBays.countP fun b => (s.bay b).profile = i),
     byte (allBays.countP fun b => (s.bay b).profile = i && (s.bay b).state.powered)]

/-- A step record in the layout of READ STEP (11.5). -/
def Step.report (slot : SlotId) (st : Step) : List Byte :=
  [byte slot.val, byte st.action.code, byte st.flags, byte st.next.val] ++ le16 (st.wait.getD 0) ++
    [byte st.result.code, byte st.refused, byte st.bays.length] ++
    (st.bays ++ List.replicate 8 0xFF).take 8

/-- The remaining ticks of the plan's wait timer, 0 when idle (R125, R173). -/
def WaitTimer.ticks : WaitTimer → Nat
  | .idle => 0
  | .running n => ticksLeft n
  | .frozen n => ticksLeft n

/-- READ STEP (R125): the engine, then the slots of the run. -/
def State.stepReport (s : State) (first : SlotId) (count : Nat) : List Byte :=
  let pl := s.plan
  let run := ((List.finRange 32).drop first.val).take (clamp 1 8 count)
  [byte pl.engine.code, optByte (pl.outcome.map PlanOutcome.code), byte (portCode pl.owner),
   optByte (pl.current.map (·.val)), byte pl.pendingSet.length, byte pl.lost] ++
    le16 pl.wait.ticks ++ [byte run.length] ++ run.flatMap fun i => (pl.steps.get i).report i

/-! ### The bytes of a reply (R171) -/

/-- The frame of a reply: reply sync, LENGTH, TYPE, TAG, RESULT, payload, CHECK. -/
def Reply.frame (r : Reply) : List Byte :=
  let body := byte (r.payload.length + 3) :: r.kind :: r.tag :: byte r.result.code :: r.payload
  replySync :: body ++ [checkByte body]

end Sys2Proof.Machine
end

