-- ==== Sys2Proof/Machine/Bays.lean ====
section
/-!
DEFINITION. The commands of chapter 1 (Bays and Carriers): presence, settling, the carrier button,
trips' faults cleared, profiles, per-bay settings and BAY QUERY.
-/

namespace Sys2Proof.Machine

open Host

/-- The outcome of every command: a next state. -/
abbrev Out := Outcome State Fault Refusal

/-- A query's reply: OK and a payload; nothing changes. -/
def report (payload : List Byte) (s : State) : Answer :=
  { state := s, result := .ok, payload := payload }

/-! ### BAY QUERY (R22) and READ PROFILE (R10) -/

/-- BAY QUERY judged and answered (R22). -/
def bayQueryAct (a : Byte × Byte × Byte) (s : State) : Answer :=
  match bayOf a.1 with
  | none => refuse .badValue s
  | some b =>
    if a.2.2 = 0 then report (s.summaryReport b a.2.1.toNat) s
    else if a.2.2 = 1 then report (s.bayRecord b) s
    else refuse .badValue s

/-- BAY QUERY: the summaries of a run of bays, or the full record of one. -/
def execBayQuery (p : Port) (tag : Byte) (payload : List Byte) (s : State) : Out :=
  .next (request .anyPort 0x04 p tag (readThree payload) bayQueryAct s)

/-- READ PROFILE judged and answered (R10). -/
def readProfileAct (x : Byte) (s : State) : Answer :=
  match profileOf x with
  | none => refuse .badValue s
  | some i => report (s.profileReport i) s

/-- READ PROFILE: one profile and the counts of bays using it. -/
def execReadProfile (p : Port) (tag : Byte) (payload : List Byte) (s : State) : Out :=
  .next (request .anyPort 0x0A p tag (readOne payload) readProfileAct s)

/-! ### SET PROFILE (R9) -/

/-- The six values as SET PROFILE clamps them (R9). -/
def Profile.clamped (x : Profile) : Profile :=
  let surge := clamp 0 2000 x.surge
  { surge := surge, surgeTime := clamp 1 300 x.surgeTime, run := clamp 0 surge x.run,
    boost := clamp 0 30 x.boost, allowance := clamp 0 3 x.allowance,
    stopTime := clamp 0 300 x.stopTime }

/-- A bay of a profile is STARTING or READY, which refuses SET PROFILE (R9). -/
def State.profileInUse (s : State) (i : ProfileId) : Bool :=
  allBays.any fun b => (s.bay b).profile = i && (s.bay b).state.powered

/-- SET PROFILE judged and done (R9). -/
def setProfileAct (a : Byte × Profile) (s : State) : Answer :=
  match profileOf a.1 with
  | none => refuse .badValue s
  | some i =>
    if s.profileInUse i then refuse .wrongState s
    else
      let x := a.2.clamped
      report x.block
        { s with settings := { s.settings with profiles := s.settings.profiles.set i x } }

/-- SET PROFILE: replace one profile whole. -/
def execSetProfile (p : Port) (tag : Byte) (payload : List Byte) (s : State) : Out :=
  .next (request .controlling 0x50 p tag (readSetProfile payload) setProfileAct s)

/-! ### SET BAY (R12, R13, R14, R18) -/

/-- The values of SET BAY after the whole-request checks (R12). -/
structure BayWrite where
  profile : Option ProfileId
  zone : Option ZoneId
  level : Option (Fin 8)
  sheddable : Option Bool
  buttonEnabled : Option Bool
  deriving DecidableEq, Repr

/-- A present value is one its setting knows. -/
def known {α : Type} (f : Byte → Option α) : Option Byte → Bool
  | none => true
  | some x => (f x).isSome

/-- The whole-request checks of SET BAY (R12): `none` is BAD_VALUE; a level above 7 is clamped. -/
def SetBayArgs.check (a : SetBayArgs) : Option BayWrite :=
  let yn := fun x : Byte => yesNoOfCode x.toNat
  if known profileOf a.profile && known fourOf a.zone && known yn a.sheddable
      && known yn a.buttonEnabled then
    some { profile := a.profile.bind profileOf, zone := a.zone.bind fourOf,
           level := a.level.map fun x => levelOf x.toNat, sheddable := a.sheddable.bind yn,
           buttonEnabled := a.buttonEnabled.bind yn }
  else none

/-- The bay settings with the present values written. -/
def BayWrite.apply (w : BayWrite) (c : BaySettings) : BaySettings :=
  { zone := w.zone.getD c.zone, level := w.level.getD c.level,
    sheddable := w.sheddable.getD c.sheddable,
    buttonEnabled := w.buttonEnabled.getD c.buttonEnabled }

/-- The bay record with the present values written: a present profile sets the override too (R12,
R14), and button enabled written to no clears the attention request (R18). -/
def BayWrite.applyBay (w : BayWrite) (y : Bay) : Bay :=
  let z := match w.profile with
    | none => y
    | some i => { y with profile := i, override := true }
  match w.buttonEnabled with
  | none => z
  | some e => z.heldAttention e

/-- A QUEUED bay is moved to the end of the level group of its new level (R13, R31). -/
def moveEntry (b : BayId) (level : Fin 8) (q : List Entry) : List Entry :=
  match q.find? fun e => e.bay = b with
  | none => q
  | some e => insertEnd { e with level := level, bypass := 0 } (removeEntry b q)

/-- The states in which SET BAY accepts a profile (R12). -/
def BayState.takesProfile : BayState → Bool
  | .off | .queued | .fault | .removable => true
  | _ => false

/-- SET BAY on one bay (R12, R13). A changed level of a QUEUED bay is a queue join, and so an
admission opportunity; no other setting is one. -/
def writeBay (w : BayWrite) (b : BayId) (s : State) : State × Option Result :=
  if w.profile.isSome && !(s.bay b).state.takesProfile then (s, some .wrongState)
  else
    let was := s.report b
    let c := w.apply (s.bayCfg b)
    let t := { s with settings := { s.settings with bays := s.settings.bays.set b c } }
    let u := postBay b was (setBay b (w.applyBay (s.bay b)) t)
    if (s.bay b).state = .queued && c.level != (s.bayCfg b).level then
      (opportunity { u with queue := moveEntry b c.level u.queue }, none)
    else (u, none)

/-- The five settings as stored, 0xFF where absent (11.5, SET BAY). Every bay that is accepted stores
these values; where every bay is refused nothing is stored, the manual does not say what the bytes
then show, and they show these same values (log 12). -/
def BayWrite.block (w : BayWrite) : List Byte :=
  [optByte (w.profile.map (·.val)), optByte (w.zone.map (·.val)), optByte (w.level.map (·.val)),
   optByte (w.sheddable.map boolNat), optByte (w.buttonEnabled.map boolNat)]

/-- SET BAY judged and done (R12). The reply carries the values as the request writes them, whatever
the bays came to (log 12). -/
def setBayAct (p : Port) (a : SetBayArgs) (s : State) : Answer :=
  match a.check with
  | none => refuse .badValue s
  | some w =>
    let r := multiBay (owned p (writeBay w)) a.bays s
    { r with payload := r.payload ++ w.block }

/-- SET BAY: change the settings of the listed bays. -/
def execSetBay (p : Port) (tag : Byte) (payload : List Byte) (s : State) : Out :=
  .next (request .anyPort 0x16 p tag (readSetBay payload) (setBayAct p) s)

/-! ### DECLINE ATTENTION (R19) and CLEAR FAULT (R21) -/

/-- DECLINE ATTENTION on one bay (R19). -/
def declineBay (b : BayId) (s : State) : State × Option Result :=
  if (s.bay b).state.noCarrier then (s, some .wrongState)
  else (changeBay b (fun y => { y with attention := false }) s, none)

/-- DECLINE ATTENTION: clear the attention request of the listed bays. -/
def execDeclineAttention (p : Port) (tag : Byte) (payload : List Byte) (s : State) : Out :=
  .next (request .anyPort 0x15 p tag (readBayList payload) (multiBay (owned p declineBay)) s)

/-- CLEAR FAULT on one bay (R21): last event and the attention request keep their values. -/
def clearFaultBay (b : BayId) (s : State) : State × Option Result :=
  if (s.bay b).state = .fault then
    (changeBay b (fun y => { y with state := .off, attempts := 0, fault := none }) s, none)
  else (s, some .wrongState)

/-- CLEAR FAULT: return the listed faulted bays to OFF. -/
def execClearFault (p : Port) (tag : Byte) (payload : List Byte) (s : State) : Out :=
  .next (request .anyPort 0x14 p tag (readBayList payload) (multiBay (owned p clearFaultBay)) s)

/-! ### Presence and settling (R5, R6, R7, R15) -/

/-- PRESENCE_ARRIVES: presence in an EMPTY bay starts SETTLING (R5). A bay that is not EMPTY has its
presence already. -/
def execPresenceArrives (b : BayId) (s : State) : Out :=
  .next (event (fun s => if (s.bay b).state = .empty then settleStart b s else s) s)

/-- PRESENCE_LOST: the presence input goes to absent, acted on by the state found (R5, R15, R16). -/
def execPresenceLost (b : BayId) (s : State) : Out := .next (event (presenceGone b) s)

/-- PULL: the presence input goes to absent, acted on by the state found (R5, R15, R16). -/
def execPull (b : BayId) (s : State) : Out := .next (event (presenceGone b) s)

/-- The settles that expire together with that of bay `b` and are taken before it: those of the bays of
lower number whose timers are due (R6, log 35). -/
def dueBefore (b c : BayId) (t : BayTimer) : Bool := decide (c < b) && t = .settle 0

/-- The settle timer of a bay expires: the due settles of lower-numbered bays are taken first, in
ascending number, and then its own; the actions wait while LOADING (R6). -/
def settleEnd (b : BayId) (contacts : Vector ProfileId 60) (s : State) : State :=
  match (s.bay b).state, (s.bay b).timer with
  | .settling, .settle _ => takeSettle b (contacts.get b) (takeSettles (dueBefore b) contacts s)
  | _, _ => s

/-- SETTLE_END: the settle timer expires, with the carrier code contacts as they then read (R6). -/
def execSettleEnd (b : BayId) (contacts : Vector ProfileId 60) (s : State) : Out :=
  .next (event (settleEnd b contacts) s)

/-! ### The carrier button (R17, R18, R79) -/

/-- A debounced press: it arises if the input has read released since the last one (R17). It uses up that
release also where button enabled is clear and it is not taken: the manual is silent there, and that is
the model's choice (log 32). -/
def press (b : BayId) (s : State) : State :=
  if (s.bay b).buttonArmed then
    pressBay b (setBay b { s.bay b with buttonArmed := false } s)
  else s

/-- BUTTON_PRESS: the button input has read pressed for 50 ms (R17). -/
def execButtonPress (b : BayId) (s : State) : Out := .next (event (press b) s)

/-- BUTTON_RELEASE: the button input has read released for 50 ms, which re-arms the debouncer (R17). -/
def execButtonRelease (b : BayId) (s : State) : Out :=
  .next (event (fun s => setBay b { s.bay b with buttonArmed := true } s) s)

end Sys2Proof.Machine
end

