-- ==== Sys2Proof/Machine/Scheduler.lean ====
section
/-!
DEFINITION. The commands of chapter 2 (Spin-Up Scheduling): POWER ON, POWER OFF, SET SCHEDULER, QUEUE
QUERY, the trips, and the expiries of the stagger gap and of the surge, backoff and stop windows.
-/

namespace Sys2Proof.Machine

open Host

/-! ### QUEUE QUERY (R49) -/

/-- A query of a start position 0–59: above 59 it is refused BAD_VALUE (R49, R83). -/
def startQuery (f : State → Nat → List Byte) (x : Byte) (s : State) : Answer :=
  if x.toNat < 60 then report (f s x.toNat) s else refuse .badValue s

/-- QUEUE QUERY: the scheduler settings, the admission state and up to 40 entries. -/
def execQueueQuery (p : Port) (tag : Byte) (payload : List Byte) (s : State) : Out :=
  .next (request .anyPort 0x05 p tag (readOne payload) (startQuery State.queueReport) s)

/-! ### POWER ON (R26) and POWER OFF (R27) -/

/-- POWER ON: put the listed bays on the way to power. -/
def execPowerOn (p : Port) (tag : Byte) (payload : List Byte) (s : State) : Out :=
  .next (request .anyPort 0x10 p tag (readBayList payload)
    (multiBay (owned p (powerOnBay .request))) s)

/-- POWER OFF: take the listed bays off power, or off the way to it. -/
def execPowerOff (p : Port) (tag : Byte) (payload : List Byte) (s : State) : Out :=
  .next (request .anyPort 0x11 p tag (readBayList payload) (multiBay (owned p powerOffBay)) s)

/-! ### SET SCHEDULER (R25) -/

/-- A present number names a value its setting knows. -/
def knownCode {α : Type} (f : Nat → Option α) : Option Nat → Bool
  | none => true
  | some x => (f x).isSome

/-- The policy values are all known (R25). -/
def SetSchedulerArgs.valid (a : SetSchedulerArgs) : Bool :=
  knownCode Mode.ofCode a.mode && knownCode InsertionPolicy.ofCode a.insertion
    && knownCode RestartPolicy.ofCode a.restart

/-- A clamped number, or the stored one where absent. -/
def writeNum (lo hi : Nat) (x : Option Nat) (old : Nat) : Nat :=
  match x with
  | none => old
  | some n => clamp lo hi n

/-- A named value, or the stored one where absent. -/
def writeCode {α : Type} (f : Nat → Option α) (x : Option Nat) (old : α) : α :=
  (x.bind f).getD old

/-- The scheduler settings with the present values stored, each number clamped (R24, R25). -/
def SetSchedulerArgs.apply (a : SetSchedulerArgs) (c : SchedulerSettings) : SchedulerSettings :=
  { mode := writeCode Mode.ofCode a.mode c.mode
    startCap := writeNum 1 16 a.startCap c.startCap
    gap := writeNum 0 100 a.gap c.gap
    bypassLimit := writeNum 1 32 a.bypassLimit c.bypassLimit
    settle := writeNum 2 50 a.settle c.settle
    backoff := writeNum 5 100 a.backoff c.backoff
    insertion := writeCode InsertionPolicy.ofCode a.insertion c.insertion
    restart := writeCode RestartPolicy.ofCode a.restart c.restart }

/-- A change of mode, start cap or bypass limit is an admission opportunity (R24, R25). -/
def schedulerOpens (was now : SchedulerSettings) : Bool :=
  was.mode != now.mode || was.startCap != now.startCap || was.bypassLimit != now.bypassLimit

/-- SET SCHEDULER judged and done (R25). -/
def setSchedulerAct (a : SetSchedulerArgs) (s : State) : Answer :=
  if a.valid then
    let c := a.apply s.settings.scheduler
    let t := { s with settings := { s.settings with scheduler := c } }
    report c.block (if schedulerOpens s.settings.scheduler c then opportunity t else t)
  else refuse .badValue s

/-- SET SCHEDULER: write scheduler settings. -/
def execSetScheduler (p : Port) (tag : Byte) (payload : List Byte) (s : State) : Out :=
  .next (request .controlling 0x51 p tag (readSetScheduler payload) setSchedulerAct s)

/-! ### Trips (R43, R44) -/

/-- START_TRIP: the trip input of a bay becomes active, acted on by the state found (R43, R44). -/
def execStartTrip (b : BayId) (s : State) : Out := .next (event (tripBay b) s)

/-- RUN_TRIP: the trip input of a bay becomes active, acted on by the state found (R43, R44). -/
def execRunTrip (b : BayId) (s : State) : Out := .next (event (tripBay b) s)

/-! ### Windows -/

/-- The surge window of a bay expires (R41): READY, with its run draw as reservation. -/
def surgeEnd (b : BayId) (s : State) : State :=
  match (s.bay b).state, (s.bay b).timer with
  | .starting, .surge _ =>
    leavePower b (fun y => { y with
      state := .ready, attempts := 0, origin := none, lastEvent := .ready, timer := .idle }) s
  | _, _ => s

/-- SURGE_WINDOW_END: the surge window of a bay expires. -/
def execSurgeWindowEnd (b : BayId) (s : State) : Out := .next (event (surgeEnd b) s)

/-- The backoff timer of a bay expires (R45): QUEUED with origin RETRY, its count kept. -/
def backoffEnd (b : BayId) (s : State) : State :=
  match (s.bay b).state, (s.bay b).timer with
  | .backoff, .backoff _ => joinQueue b .retry (fun y => { y with lastEvent := .queued }) s
  | _, _ => s

/-- BACKOFF_END: the backoff timer of a bay expires. -/
def execBackoffEnd (b : BayId) (s : State) : Out := .next (event (backoffEnd b) s)

/-- The stop window of a bay expires (R47): to REMOVABLE with removal intended set, to the queue with
requeue on stop set, and else to OFF; both flags are cleared. -/
def stopEnd (b : BayId) (s : State) : State :=
  match (s.bay b).state, (s.bay b).timer with
  | .stopping, .stop _ =>
    if (s.bay b).removalIntended then enterRemovable b (s.bay b).wasPowered s
    else if (s.bay b).requeue then
      joinQueue b ((s.bay b).origin.getD .restore)
        (fun y => { y with lastEvent := .queued, requeue := false }) s
    else
      changeBay b (fun y => { y with
        state := .off, origin := none, lastEvent := .stopped, timer := .idle }) s
  | _, _ => s

/-- STOP_WINDOW_END: the stop window of a bay expires. -/
def execStopWindowEnd (b : BayId) (s : State) : Out := .next (event (stopEnd b) s)

/-- The stagger gap timer expires: an admission opportunity (R32, R39). -/
def gapEnd (s : State) : State :=
  if s.gap.isSome then opportunity { s with gap := none } else s

/-- STAGGER_GAP_EXPIRY: the stagger gap timer expires. -/
def execStaggerGapExpiry (s : State) : Out := .next (event gapEnd s)

end Sys2Proof.Machine
end

