-- ==== Sys2Proof/Machine/Ledger.lean ====
section
/-!
DEFINITION. The commands of chapter 3 (The Power Ledger): the power-good lines, SET SUPPLY, SET
BUDGET, the shed timer and LEDGER QUERY.
-/

namespace Sys2Proof.Machine

open Host

/-- LEDGER QUERY: the supplies, budget settings, totals, flags and next shed choice (R69). -/
def execLedgerQuery (p : Port) (tag : Byte) (payload : List Byte) (s : State) : Out :=
  .next (request .anyPort 0x06 p tag (readNothing payload) (fun _ s => report s.ledgerReport s) s)

/-! ### Power-good lines (R51) -/

/-- Write the runtime record of a supply. -/
def setSupply (i : SupplyId) (x : Supply) (s : State) : State :=
  { s with supplies := s.supplies.set i x }

/-- The good field of a supply takes a value and the qualify timer stops: a change posts the supply
and, where it is installed, is a change of the budget inputs (R51). -/
def setGood (i : SupplyId) (good : Bool) (s : State) : State :=
  let t := setSupply i { good := good, qualify := none } s
  if (s.supplies.get i).good = good then t
  else
    let u := post (.supply i) t
    if (s.settings.supplies.get i).installed then supplyEvent u else u

/-- POWER_GOOD_FALL: the line of a supply falls (R51). -/
def execPowerGoodFall (i : SupplyId) (s : State) : Out := .next (event (setGood i false) s)

/-- The line of a supply rises: the qualify timer of a failed supply starts (R51). -/
def lineRises (i : SupplyId) (s : State) : State :=
  let x := s.supplies.get i
  if !x.good && x.qualify.isNone then
    setSupply i { x with qualify := some Config.qualifyMs } s
  else s

/-- POWER_GOOD_RISE: the line of a supply rises (R51). -/
def execPowerGoodRise (i : SupplyId) (s : State) : Out := .next (event (lineRises i) s)

/-- The qualify timer of a supply expires: the supply becomes good (R51). -/
def qualifyEnd (i : SupplyId) (s : State) : State :=
  if (s.supplies.get i).qualify.isSome then setGood i true s else s

/-- QUALIFY_TIMER_EXPIRY: the qualify timer of a supply expires. -/
def execQualifyTimerExpiry (i : SupplyId) (s : State) : Out := .next (event (qualifyEnd i) s)

/-! ### SET SUPPLY (R52) -/

/-- SET SUPPLY judged and done (R52). -/
def setSupplyAct (a : Byte × Option Nat × Option Nat) (s : State) : Answer :=
  match fourOf a.1 with
  | none => refuse .badValue s
  | some i =>
    if knownCode yesNoOfCode a.2.1 then
      let old := s.settings.supplies.get i
      let new : SupplySettings :=
        { installed := writeCode yesNoOfCode a.2.1 old.installed
          capacity := writeNum 0 30000 a.2.2 old.capacity }
      let t := { s with settings :=
        { s.settings with supplies := s.settings.supplies.set i new } }
      let u := if new = old then t else supplyEvent (post (.supply i) t)
      report (u.supplySummary i) u
    else refuse .badValue s

/-- SET SUPPLY: write installed and rated capacity of one supply. -/
def execSetSupply (p : Port) (tag : Byte) (payload : List Byte) (s : State) : Out :=
  .next (request .controlling 0x52 p tag (readSetSupply payload) setSupplyAct s)

/-! ### SET BUDGET (R54, R63) -/

/-- The budget settings with the present values stored, each number clamped (R53, R54). -/
def SetBudgetArgs.apply (a : SetBudgetArgs) (c : BudgetSettings) : BudgetSettings :=
  { reserve := writeCode ReservePolicy.ofCode a.reserve c.reserve
    derate := writeNum 50 100 a.derate c.derate
    base := writeNum 0 20000 a.base c.base
    shedDelay := writeNum 0 60 a.shedDelay c.shedDelay }

/-- A changed shed delay acts on the shed timer (R63). -/
def followShedDelay (s : State) : State :=
  { s with shed := shedTimer s.overBudget s.settings.budget.shedDelay s.shed }

/-- SET BUDGET judged and done (R54): a change of reserve policy, derate or base load makes the
Ledger recompute, a change of the shed delay acts on the shed timer. -/
def setBudgetAct (a : SetBudgetArgs) (s : State) : Answer :=
  if knownCode ReservePolicy.ofCode a.reserve then
    let old := s.settings.budget
    let new := a.apply old
    let t := { s with settings := { s.settings with budget := new } }
    let u := if new.shedDelay = old.shedDelay then t else followShedDelay t
    let v := if new.reserve = old.reserve && new.derate = old.derate && new.base = old.base then u
      else ledgerEvent u
    report new.block v
  else refuse .badValue s

/-- SET BUDGET: write budget settings. -/
def execSetBudget (p : Port) (tag : Byte) (payload : List Byte) (s : State) : Out :=
  .next (request .controlling 0x53 p tag (readSetBudget payload) setBudgetAct s)

/-! ### Shedding (R64) -/

/-- The shed timer restarts with the shed delay in force while the flag is set, and else stays idle
(R64). -/
def restartShed (s : State) : State :=
  { s with shed := shedTimer s.overBudget s.settings.budget.shedDelay none }

/-- A bay is shed (R46, R64), and the Ledger recomputes. -/
def shedBay (b : BayId) (s : State) : State :=
  recompute (changeBay b (Bay.stoppedBack (s.profile b).stopTime .shed .shed) s)

/-- The shed timer expires (R64): one bay is shed if there is a candidate, then the timer follows the
flag; the bay's leaving READY is an admission opportunity (R32). -/
def shedEnd (s : State) : State :=
  if s.shed.isSome && s.overBudget then
    match s.shedChoice with
    | none => restartShed s
    | some b => opportunity (restartShed (shedBay b { s with shed := none }))
  else s

/-- SHED_TIMER_EXPIRY: the shed timer expires. -/
def execShedTimerExpiry (s : State) : Out := .next (event shedEnd s)

end Sys2Proof.Machine
end

