-- ==== Sys2Proof/Machine/Removal.lean ====
section
/-!
DEFINITION. The commands of chapter 4 (Removal): PREPARE REMOVAL, CANCEL REMOVAL, SET REMOVAL,
REMOVAL QUERY and the removal window.
-/

namespace Sys2Proof.Machine

open Host

/-- REMOVAL QUERY: the removal settings and the bays in the protocol (R83). -/
def execRemovalQuery (p : Port) (tag : Byte) (payload : List Byte) (s : State) : Out :=
  .next (request .anyPort 0x09 p tag (readOne payload) (startQuery State.removalReport) s)

/-- PREPARE REMOVAL: make the listed bays safe to pull (R72). -/
def execPrepareRemoval (p : Port) (tag : Byte) (payload : List Byte) (s : State) : Out :=
  .next (request .anyPort 0x12 p tag (readBayList payload) (multiBay (owned p prepareBay)) s)

/-- CANCEL REMOVAL on one bay (R78). -/
def cancelBay (b : BayId) (s : State) : State × Option Result :=
  match (s.bay b).state with
  | .removable => (leaveRemovable b .cancelled s, none)
  | .stopping =>
    if (s.bay b).removalIntended then
      (changeBay b (fun y => { y with
        removalIntended := false, wasPowered := false
        requeue := y.wasPowered || y.requeue
        origin := if y.wasPowered then some .restore else y.origin }) s, none)
    else (s, some .wrongState)
  | _ => (s, some .wrongState)

/-- CANCEL REMOVAL: withdraw a removal of the listed bays. -/
def execCancelRemoval (p : Port) (tag : Byte) (payload : List Byte) (s : State) : Out :=
  .next (request .anyPort 0x13 p tag (readBayList payload) (multiBay (owned p cancelBay)) s)

/-- The removal window as stored (R71): 0 for none, 1–9 become 10, above 3600 becomes 3600. -/
def storedWindow (n : Nat) : Nat := if n = 0 then 0 else clamp 10 3600 n

/-- SET REMOVAL judged and done (R71). -/
def setRemovalAct (a : Option Nat × Option Nat × Option Nat) (s : State) : Answer :=
  if knownCode ExpiryPolicy.ofCode a.2.1 && knownCode ButtonAction.ofCode a.2.2 then
    let old := s.settings.removal
    let new : RemovalSettings :=
      { window := match a.1 with | none => old.window | some n => storedWindow n
        expiry := writeCode ExpiryPolicy.ofCode a.2.1 old.expiry
        action := writeCode ButtonAction.ofCode a.2.2 old.action }
    report new.block { s with settings := { s.settings with removal := new } }
  else refuse .badValue s

/-- SET REMOVAL: write the removal settings. -/
def execSetRemoval (p : Port) (tag : Byte) (payload : List Byte) (s : State) : Out :=
  .next (request .controlling 0x54 p tag (readSetRemoval payload) setRemovalAct s)

/-- The removal window of a bay expires (R77). -/
def removalEnd (b : BayId) (s : State) : State :=
  match (s.bay b).state, (s.bay b).timer with
  | .removable, .removal _ => leaveRemovable b .windowExpired s
  | _, _ => s

/-- REMOVAL_WINDOW_EXPIRY: the removal window of a bay expires. -/
def execRemovalWindowExpiry (b : BayId) (s : State) : Out := .next (event (removalEnd b) s)

end Sys2Proof.Machine
end

