-- ==== Sys2Proof/Machine/Lights.lean ====
section
/-!
DEFINITION. The commands of chapter 5 (Bay Lights): host indications, locate, the light test, the
activity line and LIGHT QUERY.
-/

namespace Sys2Proof.Machine

open Host

/-- LIGHT QUERY judged and answered (R98). -/
def lightQueryAct (a : Byte × Byte) (s : State) : Answer :=
  match bayOf a.1 with
  | none => refuse .badValue s
  | some b => report (s.lightReport b a.2.toNat) s

/-- LIGHT QUERY: the composed patterns of a run of bays and the enclosure lights. -/
def execLightQuery (p : Port) (tag : Byte) (payload : List Byte) (s : State) : Out :=
  .next (request .anyPort 0x08 p tag (readTwo payload) lightQueryAct s)

/-! ### Host indications (R90–R92) -/

/-- A locate timer or request started with a duration of 0 to 3600 s, 0 for indefinite; a longer one
is clamped (R90, R92, R97). -/
def locateFor (seconds : Nat) : LocateTimer :=
  if seconds = 0 then .indefinite else .running (min seconds 3600 * Config.secondMs)

/-- SET INDICATION on one bay (R90). -/
def indicateBay (p : Port) (i : IndSet) (seconds : Nat) (b : BayId) (s : State) :
    State × Option Result :=
  if (s.bay b).state.noCarrier && i.driveBound then (s, some .wrongState)
  else
    (changeBay b (fun y => { y with
      indications := y.indications.set p ((y.indications.get p).union i)
      locate := if i.locate then y.locate.set p (locateFor seconds) else y.locate }) s, none)

/-- SET INDICATION judged and done (R90). -/
def setIndicationAct (p : Port) (a : List Byte × IndSet × Nat) (s : State) : Answer :=
  if a.2.1.nonempty then multiBay (indicateBay p a.2.1 a.2.2) a.1 s else refuse .badValue s

/-- SET INDICATION: add indications to the requester's set for the listed bays. -/
def execSetIndication (p : Port) (tag : Byte) (payload : List Byte) (s : State) : Out :=
  .next (request .anyPort 0x30 p tag (readSetIndication payload) (setIndicationAct p) s)

/-- The bay record with indications removed from a port's set; a removed LOCATE idles the port's
locate timer (R91, R92). -/
def Bay.unindicated (p : Port) (i : IndSet) (y : Bay) : Bay :=
  { y with
    indications := y.indications.set p ((y.indications.get p).minus i)
    locate := if i.locate then y.locate.set p .idle else y.locate }

/-- CLEAR INDICATION judged and done (R91). -/
def clearIndicationAct (p : Port) (a : List Byte × IndSet) (s : State) : Answer :=
  if a.2.nonempty then
    multiBay (fun b s => (changeBay b (Bay.unindicated p a.2) s, none)) a.1 s
  else refuse .badValue s

/-- CLEAR INDICATION: remove indications from the requester's set for the listed bays. -/
def execClearIndication (p : Port) (tag : Byte) (payload : List Byte) (s : State) : Out :=
  .next (request .anyPort 0x31 p tag (readClearIndication payload) (clearIndicationAct p) s)

/-- A port's locate timer for a bay expires when it is due (R92). An indefinite timer does not expire;
nor does one that a SET INDICATION taken first has set anew, since the new duration is left. -/
def locateEnd (p : Port) (b : BayId) (s : State) : State :=
  if (s.bay b).locate.get p = .running 0 then
    changeBay b (Bay.unindicated p { IndSet.empty with locate := true }) s
  else s

/-- LOCATE_TIMER_EXPIRY: a port's locate timer for a bay expires. -/
def execLocateTimerExpiry (p : Port) (b : BayId) (s : State) : Out :=
  .next (event (locateEnd p b) s)

/-! ### Enclosure locate (R97) -/

/-- ENCLOSURE LOCATE judged and done (R97): action, then duration (2). -/
def enclosureLocateAct (p : Port) (a : Byte × Byte × Byte) (s : State) : Answer :=
  if a.1 = 0 then report [] (s.updPort p fun x => { x with locate := .idle })
  else if a.1 = 1 then
    report [] (s.updPort p fun x => { x with locate := locateFor (readLe16 a.2.1 a.2.2) })
  else refuse .badValue s

/-- ENCLOSURE LOCATE: set or clear the requester's locate request for the drawer. -/
def execEnclosureLocate (p : Port) (tag : Byte) (payload : List Byte) (s : State) : Out :=
  .next (request .anyPort 0x32 p tag (readThree payload) (enclosureLocateAct p) s)

/-- The time of a running enclosure locate request expires when it is due (R97); an ON request taken
first has replaced it, and no expiry happens. -/
def enclosureLocateEnd (p : Port) (s : State) : State :=
  if (s.port p).locate = .running 0 then s.updPort p fun x => { x with locate := .idle } else s

/-- ENCLOSURE_LOCATE_EXPIRY: a timed enclosure locate request expires. -/
def execEnclosureLocateExpiry (p : Port) (s : State) : Out := .next (event (enclosureLocateEnd p) s)

/-! ### The light test (R94) -/

/-- LIGHT TEST done (R94): a test that begins posts the enclosure, a restart posts nothing. -/
def lightTestAct (_ : Unit) (s : State) : Answer :=
  report [] (postIf s.lightTest.isNone .enclosure { s with lightTest := some Config.lightTestMs })

/-- LIGHT TEST: light every element of the drawer for 5 s. -/
def execLightTest (p : Port) (tag : Byte) (payload : List Byte) (s : State) : Out :=
  .next (request .controlling 0x33 p tag (readNothing payload) lightTestAct s)

/-- The light test timer expires (R94). -/
def lightTestEnd (s : State) : State :=
  if s.lightTest.isSome then post .enclosure { s with lightTest := none } else s

/-- LIGHT_TEST_EXPIRY: the light test timer expires. -/
def execLightTestExpiry (s : State) : Out := .next (event lightTestEnd s)

/-! ### The activity line (R86) -/

/-- ACTIVITY_PULSE: a pulse of a bay's activity line starts or restarts its dark timer (R86). -/
def execActivityPulse (b : BayId) (s : State) : Out :=
  .next (event (fun s => setBay b { s.bay b with dark := some Config.darkMs } s) s)

/-- ACTIVITY_DARK_TIMER_EXPIRY: the dark timer of a bay expires (R86). -/
def execActivityDarkTimerExpiry (b : BayId) (s : State) : Out :=
  .next (event (fun s => setBay b { s.bay b with dark := none } s) s)

end Sys2Proof.Machine
end

