-- ==== Sys2Proof/Machine/Cooling.lean ====
section
/-!
DEFINITION. The commands of chapter 6 (Cooling Zones): drive temperatures, the control period with
its nine stages, the zone settings, and ZONE QUERY.
-/

namespace Sys2Proof.Machine

open Host

/-- ZONE QUERY judged and answered (R122). -/
def zoneQueryAct (x : Byte) (s : State) : Answer :=
  match fourOf x with
  | none => refuse .badValue s
  | some z => report (s.zoneReport z) s

/-- ZONE QUERY: the settings, runtime state, sensors, temperatures and fans of one zone. -/
def execZoneQuery (p : Port) (tag : Byte) (payload : List Byte) (s : State) : Out :=
  .next (request .anyPort 0x07 p tag (readOne payload) zoneQueryAct s)

/-! ### REPORT DRIVE TEMPERATURES (R102) -/

/-- The counts of a report: taken, not powered, out of range. -/
structure ReportCounts where
  taken : Nat
  notPowered : Nat
  outOfRange : Nat
  deriving DecidableEq, Repr

/-- One pair of a report (R102). -/
def takePair (q : Byte × Byte) (r : State × ReportCounts) : State × ReportCounts :=
  match bayOf q.1 with
  | none => (r.1, { r.2 with outOfRange := r.2.outOfRange + 1 })
  | some b =>
    if (r.1.bay b).state.powered then
      (setBay b { r.1.bay b with
          temp := some { value := clampInt (-40) 125 q.2.toInt, ageMs := 0 } } r.1,
        { r.2 with taken := r.2.taken + 1 })
    else (r.1, { r.2 with notPowered := r.2.notPowered + 1 })

/-- REPORT DRIVE TEMPERATURES done (R102). -/
def reportTempsAct (pairs : List (Byte × Byte)) (s : State) : Answer :=
  let r := pairs.foldl (fun acc q => takePair q acc)
    (s, { taken := 0, notPowered := 0, outOfRange := 0 })
  report [byte r.2.taken, byte r.2.notPowered, byte r.2.outOfRange] r.1

/-- REPORT DRIVE TEMPERATURES: store the temperatures of powered bays. -/
def execReportDriveTemperatures (p : Port) (tag : Byte) (payload : List Byte) (s : State) : Out :=
  .next (request .anyPort 0x40 p tag (readReport payload) reportTempsAct s)

/-! ### The control period (R104) -/

/-- Stage 1, a RUNNING fan (R114): three periods in a row below the stall speed at an applied duty of
20 or more make it FAILED. -/
def Fan.superviseRunning (stall applied : Nat) (f : Fan) : Fan :=
  if f.speed.toNat < stall && 20 ≤ applied then
    if 3 ≤ f.stallRun + 1 then { f with state := .failed, stallRun := 0, recoveryRun := 0 }
    else { f with stallRun := f.stallRun + 1 }
  else { f with stallRun := 0 }

/-- Stage 1, a FAILED fan (R115): three periods in a row at or above the stall speed make it RUNNING. -/
def Fan.superviseFailed (stall : Nat) (f : Fan) : Fan :=
  if stall ≤ f.speed.toNat then
    if 3 ≤ f.recoveryRun + 1 then { f with state := .running, stallRun := 0, recoveryRun := 0 }
    else { f with recoveryRun := f.recoveryRun + 1 }
  else { f with recoveryRun := 0 }

/-- Stage 1 for one fan, with the speed measured over the period; an ABSENT fan is not read (R113). -/
def Fan.supervise (stall applied : Nat) (speed : BitVec 16) (f : Fan) : Fan :=
  match f.state with
  | .absent => f
  | .running => Fan.superviseRunning stall applied { f with speed := speed }
  | .failed => Fan.superviseFailed stall { f with speed := speed }

/-- Stage 1: fan supervision of a zone, by the applied duty it held during the period (R114, R115). -/
def superviseFans (z : ZoneId) (speeds : Vector (BitVec 16) 4) (s : State) : State :=
  updFans z (fun i f => f.supervise (s.zoneCfg z).stallSpeed (s.zone z).applied (speeds.get i)) s

/-- A sensor read (R101): valid when the input is not open and lies within −40 to 125. -/
def readSensor (x : Option Int) : Sensor :=
  match x with
  | none => { reading := none, valid := false }
  | some t =>
    if -40 ≤ t ∧ t ≤ 125 then { reading := some t, valid := true }
    else { reading := none, valid := false }

/-- The board sensors mapped to a zone are read at its period (R101). -/
def readSensors (z : ZoneId) (inputs : Vector (Option Int) 8) (s : State) : State :=
  { s with sensors := Vector.ofFn fun i : SensorId =>
      if s.settings.sensorMap.get i = some z then readSensor (inputs.get i) else s.sensors.get i }

/-- The valid inputs of a zone: its sensors' readings and the fresh temperatures of its powered bays
(R105). -/
def State.zoneInputs (s : State) (z : ZoneId) : List Int :=
  ((List.finRange 8).filterMap fun i =>
    if s.settings.sensorMap.get i = some z && (s.sensors.get i).valid then (s.sensors.get i).reading
    else none) ++ allBays.filterMap (s.tempOf z true)

/-- Stage 2: the zone temperature and the BLIND flag (R105). -/
def Zone.withTemp (inputs : List Int) (x : Zone) : Zone :=
  let t := hottest inputs
  { x with temp := t, blind := t.isNone }

/-- A temperature flag with its clearing margin (R106). -/
def flagAt (threshold : Int) (hysteresis : Nat) (t : Int) (now : Bool) : Bool :=
  if threshold ≤ t then true
  else if t ≤ threshold - (max hysteresis 1 : Nat) then false
  else now

/-- Stage 4: the curve input (R107). -/
def stepInput (hysteresis : Nat) (t : Int) : Option Int → Int
  | none => t
  | some h => if h ≤ t then t else min h (t + hysteresis)

/-- A quotient of integers rounded to the next higher whole number, for a positive divisor. -/
def ceilDivInt (n d : Int) : Int := -((-n) / d)

/-- Stage 5: the duty of a curve at a curve input (R108). -/
def curveDuty : List (Int × Nat) → Int → Nat
  | [], _ => 0
  | (t, d) :: rest, x =>
    if x ≤ t then d
    else match rest with
      | [] => d
      | (u, e) :: _ =>
        if x < u then ((d : Int) + ceilDivInt (((e : Int) - (d : Int)) * (x - t)) (u - t)).toNat
        else curveDuty rest x

/-- Stages 3 and 4: the flags HOLD and OVERHEAT, the effective ceiling and the curve input, at a
temperature (R106, R107). -/
def Zone.judged (c : ZoneSettings) (t : Int) (x : Zone) : Zone :=
  let hot := flagAt c.critical c.hysteresis t x.overheat
  { x with hold := flagAt c.hold c.hysteresis t x.hold, overheat := hot
           ceiling := if hot then 100 else c.ceiling
           curveInput := some (stepInput c.hysteresis t x.curveInput) }

/-- Stages 3 to 5, not taken while BLIND (R105). -/
def Zone.judgedIf (c : ZoneSettings) (x : Zone) : Zone :=
  match x.temp with
  | none => x
  | some t => x.judged c t

/-- Stage 6: the boost of a zone (R109). -/
def State.zoneBoost (s : State) (z : ZoneId) : Nat :=
  min 40 ((allBays.map fun b =>
    if (s.bay b).state = .starting && (s.bayCfg b).zone = z then (s.profile b).boost else 0).sum)

/-- Stage 7: the demand (R110). -/
def Zone.demanded (c : ZoneSettings) (x : Zone) : Nat :=
  if x.overheat then 100
  else if x.degraded then x.ceiling
  else if x.blind then max c.floor (min c.failsafe x.ceiling)
  else min x.ceiling (max c.floor (curveDuty c.curve (x.curveInput.getD 0) + x.boost))

/-- Stage 8: the slew (R111). -/
def slew (up down demand applied : Nat) : Nat :=
  if applied < demand then min (applied + up) demand
  else max (applied - down) demand

/-- Stages 7 to 9: demand, applied duty and reservation duty (R110–R112). -/
def Zone.driven (c : ZoneSettings) (x : Zone) : Zone :=
  let d := x.demanded c
  let a := slew c.slewUp c.slewDown d x.applied
  { x with demand := d, applied := a, reservation := max x.ceiling a,
           periodMs := Config.secondMs }

/-- The zone record after a control period, from the state its fans and sensors have been read in. -/
def State.periodZone (s : State) (z : ZoneId) : Zone :=
  let c := s.zoneCfg z
  let x := ({ s.zone z with degraded := s.hasFailedFan z } : Zone).withTemp (s.zoneInputs z)
  let y := { x.judgedIf c with boost := s.zoneBoost z }
  y.driven c

/-- A zone or one of its fans has changed a reportable field (R117). -/
def zoneChanged (z : ZoneId) (was now : State) : Bool :=
  (was.zone z).flags != (now.zone z).flags || decide (was.fanStates z ≠ now.fanStates z)

/-- What a zone hands to the Ledger and the Scheduler (R112, R117): a changed reservation duty makes
the Ledger recompute, and a hold that clears is an admission opportunity. -/
def handOn (z : ZoneId) (was now : State) : State :=
  let t := if (was.zone z).reservation = (now.zone z).reservation then now else recompute now
  if ledgerOpens now t || ((was.zone z).holds && !(now.zone z).holds) then opportunity t else t

/-- The control period of a zone (R104). -/
def controlPeriod (z : ZoneId) (inputs : Vector (Option Int) 8) (speeds : Vector (BitVec 16) 4)
    (s : State) : State :=
  let t := readSensors z inputs (superviseFans z speeds s)
  let u := setZone z (t.periodZone z) t
  handOn z s (postIf (zoneChanged z s u) (.zone z) u)

/-- CONTROL_PERIOD: the one-second control period of a zone. -/
def execControlPeriod (z : ZoneId) (inputs : Vector (Option Int) 8) (speeds : Vector (BitVec 16) 4)
    (s : State) : Out := .next (event (controlPeriod z inputs speeds) s)

/-! ### SET ZONE (R119) -/

/-- A clamped temperature, or the stored one where absent. -/
def writeTemp (x : Option Int) (old : Int) : Int :=
  match x with
  | none => old
  | some t => clampInt 0 125 t

/-- The zone settings with the present values stored, clamped, and the pairs reconciled (R119). -/
def SetZoneArgs.apply (a : SetZoneArgs) (c : ZoneSettings) : ZoneSettings :=
  let floor := writeNum 0 100 a.floor c.floor
  let ceiling := writeNum 0 100 a.ceiling c.ceiling
  let hold := writeTemp a.hold c.hold
  { floor := if a.ceiling.isSome then floor else min floor ceiling
    ceiling := if a.ceiling.isSome then max ceiling floor else ceiling
    failsafe := writeNum 0 100 a.failsafe c.failsafe
    hysteresis := writeNum 0 10 a.hysteresis c.hysteresis
    slewUp := writeNum 1 100 a.slewUp c.slewUp
    slewDown := writeNum 1 100 a.slewDown c.slewDown
    hold := hold
    critical := max hold (writeTemp a.critical c.critical)
    fanCount := writeNum 0 4 a.fanCount c.fanCount
    fanDraw := writeNum 0 1000 a.fanDraw c.fanDraw
    stallSpeed := writeNum 0 10000 a.stallSpeed c.stallSpeed
    curve := c.curve }

/-- The settings with a zone's settings replaced. -/
def Settings.withZone (z : ZoneId) (c : ZoneSettings) (x : Settings) : Settings :=
  { x with zones := x.zones.set z c }

/-- What written zone settings change at once (R112, R113, R119): the fans by the count, the
effective ceiling and the reservation duty. -/
def applyZone (z : ZoneId) (s : State) : State :=
  let t := recountFans z s
  setZone z ((t.zone z).rated (t.zoneCfg z).ceiling) t

/-- SET ZONE judged and done (R119): the Ledger recomputes where the reservation duty, the fan count
or the fan rated draw has changed (R61). -/
def setZoneAct (a : SetZoneArgs) (s : State) : Answer :=
  match fourOf a.zone with
  | none => refuse .badValue s
  | some z =>
    let old := s.zoneCfg z
    let new := a.apply old
    let t := applyZone z { s with settings := s.settings.withZone z new }
    let u := if new.fanCount = old.fanCount && new.fanDraw = old.fanDraw
        && (t.zone z).reservation = (s.zone z).reservation then t else ledgerEvent t
    report new.block u

/-- SET ZONE: write settings of one zone. -/
def execSetZone (p : Port) (tag : Byte) (payload : List Byte) (s : State) : Out :=
  .next (request .controlling 0x41 p tag (readSetZone payload) setZoneAct s)

/-! ### SET CURVE (R120) -/

/-- Temperatures strictly ascend. -/
def ascending : List (Int × Nat) → Bool
  | [] => true
  | [_] => true
  | (t, _) :: (u, e) :: rest => decide (t < u) && ascending ((u, e) :: rest)

/-- A curve with its temperatures and duties clamped (R120). -/
def clampCurve (ps : List (Int × Nat)) : List (Int × Nat) :=
  ps.map fun q => (clampInt (-40) 125 q.1, min q.2 100)

/-- A clamped curve is one a zone can hold: 2 to 6 points, strictly ascending (R120, R164). -/
def curveGood (ps : List (Int × Nat)) : Bool :=
  decide (2 ≤ ps.length ∧ ps.length ≤ 6) && ascending (clampCurve ps)

/-- SET CURVE judged and done (R120). -/
def setCurveAct (a : Byte × List (Int × Nat)) (s : State) : Answer :=
  match fourOf a.1 with
  | none => refuse .badValue s
  | some z =>
    if curveGood a.2 then
      let c := clampCurve a.2
      report (byte c.length :: curveBytes c)
        { s with settings := s.settings.withZone z { s.zoneCfg z with curve := c } }
    else refuse .badValue s

/-- SET CURVE: replace the curve of one zone. -/
def execSetCurve (p : Port) (tag : Byte) (payload : List Byte) (s : State) : Out :=
  .next (request .controlling 0x42 p tag (readSetCurve payload) setCurveAct s)

/-! ### SET SENSOR MAP (R121) -/

/-- SET SENSOR MAP judged and done (R121). -/
def setSensorMapAct (a : List (Option Nat) × Option Nat) (s : State) : Answer :=
  if a.1.all (knownCode mapEntryOfCode) then
    let old := s.settings
    let new : Settings := { old with
      sensorMap := Vector.ofFn fun i : SensorId =>
        writeCode mapEntryOfCode (a.1.getD i.val none) (old.sensorMap.get i)
      staleness := writeNum 10 600 a.2 old.staleness }
    report new.sensorBlock (dropUnmapped { s with settings := new })
  else refuse .badValue s

/-- SET SENSOR MAP: write map entries and the staleness limit. -/
def execSetSensorMap (p : Port) (tag : Byte) (payload : List Byte) (s : State) : Out :=
  .next (request .controlling 0x43 p tag (readSensorMap payload) setSensorMapAct s)

end Sys2Proof.Machine
end

