-- ==== Sys2Proof/Machine/Plans.lean ====
section
/-!
DEFINITION. The commands of chapter 7 (Power Plans): the plan table, starting, running, pausing and
aborting a plan, and CHECK PLAN.
-/

namespace Sys2Proof.Machine

open Host

/-- Write the plan. -/
def setPlan (pl : Plan) (s : State) : State := { s with plan := pl }

/-! ### READ STEP (R125) and WRITE STEP (R124) -/

/-- READ STEP judged and answered (R125). -/
def readStepAct (a : Byte × Byte) (s : State) : Answer :=
  match slotOf a.1 with
  | none => refuse .badValue s
  | some i => report (s.stepReport i a.2.toNat) s

/-- READ STEP: the engine state and a run of step records. -/
def execReadStep (p : Port) (tag : Byte) (payload : List Byte) (s : State) : Out :=
  .next (request .anyPort 0x0B p tag (readTwo payload) readStepAct s)

/-- The record WRITE STEP stores, if its values are in order (R124): the slot and the record. -/
def WriteStepArgs.check (a : WriteStepArgs) : Option (SlotId × Step) :=
  match slotOf a.slot, StepAction.ofCode a.action.toNat, slotOf a.next with
  | some i, some act, some nx =>
    if a.bays.length ≤ 8 then
      some (i, { action := act, bays := a.bays
                 wait := if act = .waitTime then some (clamp 1 6000 a.wait) else none
                 notify := a.flags.toNat.testBit 0, last := a.flags.toNat.testBit 1
                 next := nx, result := .pending, refused := 0 })
    else none
  | _, _, _ => none

/-- WRITE STEP judged and done (R124). -/
def writeStepAct (a : WriteStepArgs) (s : State) : Answer :=
  if s.plan.engine.active then refuse .busy s
  else match a.check with
    | none => refuse .badValue s
    | some (i, st) =>
      report (st.report i) (setPlan { s.plan with steps := s.plan.steps.set i st } s)

/-- WRITE STEP: replace one step record. -/
def execWriteStep (p : Port) (tag : Byte) (payload : List Byte) (s : State) : Out :=
  .next (request .controlling 0x60 p tag (readWriteStep payload) writeStepAct s)

/-! ### The chain (R127) -/

/-- A bay list of distinct numbers 0–59. -/
def baysDistinct (bs : List Byte) : Bool := bs.all (fun x => (bayOf x).isSome) && decide bs.Nodup

/-- A step is well formed as a member of a chain (R123). -/
def Step.wellFormed (st : Step) : Bool :=
  match st.action with
  | .none => false
  | .on | .off | .remove =>
    decide (1 ≤ st.bays.length ∧ st.bays.length ≤ 8) && baysDistinct st.bays
  | .waitTime | .waitSettled => st.bays.isEmpty

/-- The walk of a chain from a slot (R127): the slots in chain order, or `none` where it meets a slot
already visited or a step that is not well formed. A table of 32 slots bounds the walk. -/
def walk (steps : Vector Step 32) : Nat → List SlotId → SlotId → Option (List SlotId)
  | 0, _, _ => none
  | n + 1, seen, i =>
    if i ∈ seen then none
    else if !(steps.get i).wellFormed then none
    else if (steps.get i).last then some [i]
    else (walk steps n (i :: seen) (steps.get i).next).map (i :: ·)

/-- The chain that begins at a slot, if START PLAN would accept it (R127). -/
def Plan.chain (pl : Plan) (i : SlotId) : Option (List SlotId) := walk pl.steps 32 [] i

/-- Write the results of the slots of a list (R127, R136). -/
def mapSlots (is : List SlotId) (f : Step → Step) (steps : Vector Step 32) : Vector Step 32 :=
  Vector.ofFn fun i : SlotId => if i ∈ is then f (steps.get i) else steps.get i

/-- A plan request by a start index: BUSY while a plan is under way, BAD_VALUE for a start index above
31 or a chain that is not in order (R127, R138). -/
def withChain (act : SlotId → List SlotId → State → Answer) (x : Byte) (s : State) : Answer :=
  if s.plan.engine.active then refuse .busy s
  else match slotOf x with
    | none => refuse .badValue s
    | some i => match s.plan.chain i with
      | none => refuse .badValue s
      | some c => act i c s

/-- START PLAN accepted (R127). -/
def startPlan (p : Port) (i : SlotId) (c : List SlotId) (s : State) : State :=
  post .plan (setPlan { s.plan with
    steps := mapSlots c (fun st => { st with result := .pending, refused := 0 }) s.plan.steps
    engine := .running, outcome := none, owner := some p, current := some i
    inProgress := false, pendingSet := [], lost := 0, wait := .idle, notified := none } s)

/-- START PLAN: validate a chain of steps and run it. -/
def execStartPlan (p : Port) (tag : Byte) (payload : List Byte) (s : State) : Out :=
  .next (request .controlling 0x61 p tag (readOne payload)
    (withChain fun i c s => report [] (startPlan p i c s)) s)

/-! ### Running a plan (R128–R133) -/

/-- A bay joins the pending set (R132). -/
def joinPending (b : BayId) (s : State) : State :=
  if b ∈ s.plan.pendingSet then s
  else setPlan { s.plan with pendingSet := s.plan.pendingSet ++ [b] } s

/-- An ON step on one bay (R129): as POWER ON with origin PLAN; a bay it puts on the way to power
joins the pending set. -/
def onStepBay (b : BayId) (s : State) : State × Option Result :=
  match (s.bay b).onCase with
  | .queue | .requeue => powerOnBay .plan b (joinPending b s)
  | .noChange | .refuse => powerOnBay .plan b s

/-- The action of a step on one bay, after the rights check of R129. -/
def stepBay (act : StepAction) (b : BayId) (s : State) : State × Option Result :=
  if s.planMayAct s.plan.owner b then
    match act with
    | .on => onStepBay b s
    | .off => powerOffBay b s
    | .remove => prepareBay b s
    | .none | .waitTime | .waitSettled => (s, none)
  else (s, some .notOwner)

/-- An ON, OFF or REMOVE step executed whole (R129, R130): DONE, or PARTIAL with the number of bays
refused. -/
def runBayStep (st : Step) (s : State) : State :=
  let r := takeBays (stepBay st.action) st.bays s
  endStep (if r.2.isEmpty then .done else .partly) r.2.length r.1

/-- The engine takes a step (R128). -/
def takeStep (st : Step) (s : State) : State :=
  match st.action with
  | .none => s
  | .on | .off | .remove => runBayStep st s
  | .waitTime =>
    setPlan { s.plan with
      inProgress := true, wait := .running ((st.wait.getD 1) * Config.tickMs) } s
  | .waitSettled =>
    if s.plan.pendingSet.isEmpty then endWaitSettled s
    else setPlan { s.plan with inProgress := true } s

/-- The engine takes its current step while it is RUNNING and no step is in progress (R128). -/
def planStep (s : State) : State :=
  if s.plan.engine = .running && !s.plan.inProgress then
    match s.plan.currentStep with
    | none => s
    | some st => takeStep st s
  else s

/-- PLAN_STEP: the engine takes its current step. -/
def execPlanStep (s : State) : Out := .next (event planStep s)

/-- The wait timer expires while the engine is RUNNING: the WAIT_TIME step ends DONE (R131). -/
def waitEnd (s : State) : State :=
  match s.plan.engine, s.plan.wait with
  | .running, .running _ => endStep .done 0 (setPlan { s.plan with wait := .idle } s)
  | _, _ => s

/-- WAIT_TIME_EXPIRY: the plan's wait timer expires. -/
def execWaitTimeExpiry (s : State) : Out := .next (event waitEnd s)

/-! ### Pausing and aborting (R135–R137) -/

/-- PAUSE PLAN done (R135). -/
def pauseAct (_ : Unit) (s : State) : Answer :=
  match s.plan.engine with
  | .running =>
    report [] (post .plan (setPlan { s.plan with
      engine := .paused
      wait := match s.plan.wait with | .running n => .frozen n | w => w } s))
  | .paused => report [] s
  | .idle | .aborting | .done => refuse .wrongState s

/-- PAUSE PLAN: stop the engine between steps. -/
def execPausePlan (p : Port) (tag : Byte) (payload : List Byte) (s : State) : Out :=
  .next (request .controlling 0x62 p tag (readNothing payload) pauseAct s)

/-- The engine goes back to RUNNING: a frozen wait counts on, and a WAIT_SETTLED step whose pending
set is empty ends at once (R135). -/
def resumePlan (s : State) : State :=
  let t := post .plan (setPlan { s.plan with
    engine := .running
    wait := match s.plan.wait with | .frozen n => .running n | w => w } s)
  if t.plan.awaitsSettled && t.plan.pendingSet.isEmpty then endWaitSettled t else t

/-- RESUME PLAN done (R135). -/
def resumeAct (_ : Unit) (s : State) : Answer :=
  match s.plan.engine with
  | .paused => report [] (resumePlan s)
  | .running => report [] s
  | .idle | .aborting | .done => refuse .wrongState s

/-- RESUME PLAN: let a paused engine go on. -/
def execResumePlan (p : Port) (tag : Byte) (payload : List Byte) (s : State) : Out :=
  .next (request .controlling 0x63 p tag (readNothing payload) resumeAct s)

/-- A bay of the pending set that is QUEUED with origin PLAN is withdrawn to OFF, as POWER OFF takes a
QUEUED bay (R136, step 2). -/
def abortQueued (b : BayId) (s : State) : State :=
  if (s.bay b).state = .queued && (s.bay b).origin = some .plan then
    changeBay b Bay.withdrawn (dequeue b s)
  else s

/-- Requeue on stop and the origin are cleared on a bay of the pending set that is STOPPING with origin
PLAN (R136, step 3). -/
def abortStopping (b : BayId) (s : State) : State :=
  if (s.bay b).state = .stopping && (s.bay b).origin = some .plan then
    changeBay b (fun y => { y with requeue := false, origin := none }) s
  else s

/-- The slots from the current step to the step with last set (R136). -/
def Plan.remaining (pl : Plan) : List SlotId :=
  match pl.current with
  | none => []
  | some i => (pl.chain i).getD []

/-- The steps from the current one on that are still PENDING are marked SKIPPED (R136). -/
def skipRest (s : State) : State :=
  setPlan { s.plan with
    steps := mapSlots s.plan.remaining
      (fun st => if st.result = .pending then { st with result := .skipped } else st)
      s.plan.steps } s

/-- The engine enters ABORTING: a frozen wait timer is cancelled, and the plan is posted (R136, step 1). -/
def enterAborting (s : State) : State :=
  post .plan (setPlan { s.plan with engine := .aborting, wait := .idle, inProgress := false } s)

/-- ABORT PLAN accepted in PAUSED (R136): the engine enters ABORTING, every withdrawal is made and then
every clearing, the rest is skipped, and the engine is DONE where no pending bay of origin PLAN is
STARTING. The review of a withdrawal or a clearing may find that already (R137); the end is the same.
Within step 2 and within step 3 the bays are taken in the order in which they joined the set (log 18). -/
def abortPlan (s : State) : State :=
  let bays := s.plan.pendingSet
  let withdrawn := bays.foldl (fun acc b => abortQueued b acc) (enterAborting s)
  let t := skipRest (bays.foldl (fun acc b => abortStopping b acc) withdrawn)
  if t.planStarting then t else finishAbort t

/-- ABORT PLAN done (R136). -/
def abortAct (_ : Unit) (s : State) : Answer :=
  match s.plan.engine with
  | .paused => report [] (abortPlan s)
  | .aborting => report [] s
  | .idle | .running | .done => refuse .wrongState s

/-- ABORT PLAN: end a paused plan and withdraw its queued bays. -/
def execAbortPlan (p : Port) (tag : Byte) (payload : List Byte) (s : State) : Out :=
  .next (request .controlling 0x64 p tag (readNothing payload) abortAct s)

/-! ### CHECK PLAN (R138) -/

/-- The judgement of CHECK PLAN on one bay of a step (R138): `none` for a bay the step would refuse,
else whether the bay is taken on. -/
def State.checkBay (s : State) (p : Port) (act : StepAction) (b : BayId) : Option Bool :=
  if s.planMayAct (some p) b then
    match act with
    | .on => if (s.bay b).onCase = .refuse then none else some true
    | .off | .remove => if (s.bay b).state.noCarrier then none else some false
    | .none | .waitTime | .waitSettled => none
  else none

/-- The bays of a step as judged by CHECK PLAN. -/
def State.checkStep (s : State) (p : Port) (st : Step) : List (BayId × Option Bool) :=
  st.bays.filterMap fun x => (bayOf x).map fun b => (b, s.checkBay p st.action b)

/-- The starting condition of a bay: on when it is READY, STARTING or QUEUED now (R138). -/
def Bay.startsOn (y : Bay) : Bool := y.state.powered || y.state = .queued

/-- The final condition of a bay: that of the last step of the chain which takes it on or off, else
its starting condition (R138). -/
def finalOn (start : Bool) (b : BayId) (judged : List (BayId × Option Bool)) : Bool :=
  judged.foldl (fun on q => if q.1 = b then q.2.getD on else on) start

/-- An ON step would act on a bay whose surge draw exceeds A (R138). -/
def State.neverAdmits (s : State) (p : Port) (st : Step) : Bool :=
  st.action = .on && st.bays.any fun x =>
    match bayOf x with
    | none => false
    | some b => s.planMayAct (some p) b && s.totals.allowance < (s.profile b).surge &&
        ((s.bay b).onCase = .queue || (s.bay b).onCase = .requeue)

/-- A count of refusals as CHECK PLAN's one byte; what a count above 255 shows is open (log 11). -/
def refusalByte (n : Nat) : Byte := if n < 256 then byte n else Config.refusalCountAbove255 n

/-- CHECK PLAN answered for a chain (R138). -/
def checkPlanReport (p : Port) (c : List SlotId) (s : State) : List Byte :=
  let steps := c.map s.plan.steps.get
  let judged := steps.flatMap (s.checkStep p)
  let load := (allBays.map fun b =>
    if finalOn (s.bay b).startsOn b judged then (s.profile b).run else 0).sum
  le32 load ++ le32 s.totals.allowance ++
    [byte (boolNat (s.totals.allowance < load)),
     optByte ((c.find? fun i => s.neverAdmits p (s.plan.steps.get i)).map (·.val)),
     byte c.length, refusalByte (judged.countP fun q => q.2.isNone)]

/-- CHECK PLAN: judge a chain and project its load without acting. -/
def execCheckPlan (p : Port) (tag : Byte) (payload : List Byte) (s : State) : Out :=
  .next (request .controlling 0x65 p tag (readOne payload)
    (withChain fun _ c s => report (checkPlanReport p c s) s) s)

end Sys2Proof.Machine
end

