-- ==== Sys2Proof/Machine/Ports.lean ====
section
/-!
DEFINITION. The commands of chapters 8 and 9 (Ports, Roles and Claims; Message Link): claims, roles,
notes, port settings, READ CHANGES, IDENTIFY, STATUS, and the events of the receivers.
-/

namespace Sys2Proof.Machine

open Host

/-! ### IDENTIFY (R162), STATUS (R163), READ CHANGES (R161) -/

/-- IDENTIFY: the part's identity and the counts of its objects; answered in LOADING too. -/
def execIdentify (p : Port) (tag : Byte) (payload : List Byte) (s : State) : Out :=
  .next (request .always 0x01 p tag (readNothing payload) (fun _ s => report identifyReport s) s)

/-- STATUS answered, the link flags it reports cleared (R156, R163). -/
def statusAct (p : Port) (_ : Unit) (s : State) : Answer :=
  report (s.statusReport p) (s.updPort p fun x => { x with flags := LinkFlags.clear })

/-- STATUS: the state of the requesting port and of the drawer; answered in LOADING too. -/
def execStatus (p : Port) (tag : Byte) (payload : List Byte) (s : State) : Out :=
  .next (request .always 0x02 p tag (readNothing payload) (statusAct p) s)

/-- A port after READ CHANGES has taken the first 8 entries (R160, R161). -/
def PortState.takeChanges (x : PortState) : PortState :=
  { x with changes := x.changes.drop 8, attention := !(x.changes.drop 8).isEmpty }

/-- READ CHANGES done (R161, R174). -/
def readChangesAct (p : Port) (_ : Unit) (s : State) : Answer :=
  let x := s.port p
  let taken := x.changes.take 8
  report (byte (x.changes.drop 8).length :: byte taken.length :: taken.flatMap (s.changeEntry p))
    (s.updPort p PortState.takeChanges)

/-- READ CHANGES: take the oldest entries from the requester's change list. -/
def execReadChanges (p : Port) (tag : Byte) (payload : List Byte) (s : State) : Out :=
  .next (request .anyPort 0x03 p tag (readNothing payload) (readChangesAct p) s)

/-! ### CLAIM (R145) and RELEASE (R146) -/

/-- CLAIM on one bay (R145). -/
def claimBay (p : Port) (b : BayId) (s : State) : State × Option Result :=
  match (s.bay b).owner with
  | none => (changeBay b (fun y => { y with owner := some p }) s, none)
  | some q => if q = p then (s, none) else (s, some .heldByPeer)

/-- CLAIM: take ownership of the listed bays. -/
def execClaim (p : Port) (tag : Byte) (payload : List Byte) (s : State) : Out :=
  .next (request .anyPort 0x20 p tag (readBayList payload) (multiBay (claimBay p)) s)

/-- RELEASE on one bay (R146). -/
def releaseBay (p : Port) (b : BayId) (s : State) : State × Option Result :=
  if (s.bay b).owner = some p then (changeBay b (fun y => { y with owner := none }) s, none)
  else (s, some .notOwner)

/-- RELEASE: give up ownership of the listed bays. -/
def execRelease (p : Port) (tag : Byte) (payload : List Byte) (s : State) : Out :=
  .next (request .anyPort 0x21 p tag (readBayList payload) (multiBay (releaseBay p)) s)

/-! ### Roles (R147, R149) -/

/-- A port becomes CONTROLLING and the other AUXILIARY; a change posts the enclosure (R139). -/
def setRole (p : Port) (s : State) : State :=
  postIf (s.controlling != p) .enclosure { s with controlling := p }

/-- HANDOVER done (R147). -/
def handoverAct (p : Port) (_ : Unit) (s : State) : Answer :=
  report [byte (portCode (some p.peer))] (setRole p.peer s)

/-- HANDOVER: give the CONTROLLING role to the other port. -/
def execHandover (p : Port) (tag : Byte) (payload : List Byte) (s : State) : Out :=
  .next (request .controlling 0x22 p tag (readNothing payload) (handoverAct p) s)

/-- The bays a port owns. -/
def State.ownedBy (s : State) (p : Port) : List BayId :=
  allBays.filter fun b => (s.bay b).owner = some p

/-- TAKEOVER accepted (R149): the peer's claims, its plan ownership, and the role. -/
def takeover (p : Port) (s : State) : State :=
  let t := (s.ownedBy p.peer).foldl
    (fun acc b => changeBay b (fun y => { y with owner := some p }) acc) s
  let u := if t.plan.owner = some p.peer then setPlan { t.plan with owner := some p } t else t
  setRole p u

/-- TAKEOVER judged and done (R149). -/
def takeoverAct (p : Port) (_ : Unit) (s : State) : Answer :=
  if (s.port p.peer).silence < s.settings.ports.silenceLimit then refuse .heldByPeer s
  else report [byte (s.ownedBy p.peer).length, byte (boolNat (s.plan.owner = some p.peer)),
               byte (boolNat (s.controlling != p))] (takeover p s)

/-- TAKEOVER: take the claims, the plan and the CONTROLLING role from a silent peer. -/
def execTakeover (p : Port) (tag : Byte) (payload : List Byte) (s : State) : Out :=
  .next (request .anyPort 0x23 p tag (readNothing payload) (takeoverAct p) s)

/-! ### Notes (R151, R152) -/

/-- SEND NOTE done (R151): the note goes into the peer's slot and is posted to the peer alone. -/
def sendNoteAct (p : Port) (note : List Byte) (s : State) : Answer :=
  let replaced := !(s.port p.peer).note.isEmpty
  report [byte (boolNat replaced)] (postTo p.peer .note (s.updPort p.peer fun x =>
    { x with note := note, noteOverrun := x.noteOverrun || replaced }))

/-- SEND NOTE: leave a note of 1 to 16 bytes for the other port. -/
def execSendNote (p : Port) (tag : Byte) (payload : List Byte) (s : State) : Out :=
  .next (request .anyPort 0x24 p tag (readNoteBytes payload) (sendNoteAct p) s)

/-- READ NOTE done (R152): the slot is returned, then emptied. -/
def readNoteAct (p : Port) (_ : Unit) (s : State) : Answer :=
  let x := s.port p
  report (byte x.note.length :: byte (boolNat x.noteOverrun) :: x.note)
    (s.updPort p fun y => { y with note := [], noteOverrun := false })

/-- READ NOTE: take the note waiting for the requesting port. -/
def execReadNote (p : Port) (tag : Byte) (payload : List Byte) (s : State) : Out :=
  .next (request .anyPort 0x25 p tag (readNothing payload) (readNoteAct p) s)

/-! ### SET PORT SETTINGS (R141) -/

/-- SET PORT SETTINGS judged and done (R141). -/
def setPortSettingsAct (a : Option Nat × Option Nat) (s : State) : Answer :=
  if knownCode portOfCode a.1 then
    let old := s.settings.ports
    let new : PortSettings :=
      { preferred := writeCode portOfCode a.1 old.preferred
        silenceLimit := writeNum 2 60 a.2 old.silenceLimit }
    report new.block { s with settings := { s.settings with ports := new } }
  else refuse .badValue s

/-- SET PORT SETTINGS: write the preferred controller and the silence limit. -/
def execSetPortSettings (p : Port) (tag : Byte) (payload : List Byte) (s : State) : Out :=
  .next (request .controlling 0x26 p tag (readPortSettings payload) setPortSettingsAct s)

/-! ### Events of the receivers (R153–R157) -/

/-- A frame with a correct check whose TYPE names no request is answered BAD_TYPE (R157), its TYPE
with the high bit set (R171). -/
def badType (p : Port) (kind tag : Byte) (s : State) : State :=
  if s.deaf p then s
  else
    let t := hear p s
    if (t.port p).outstanding.isSome then markOverrun p t
    else sendReply p kind.toNat tag (refuse .badType t)

/-- UNKNOWN_REQUEST_TYPE: a taken frame of unknown TYPE. A TYPE of 11.2 is not unknown, and such a
frame is the command of its own row. -/
def execUnknownRequestType (p : Port) (kind tag : Byte) (_payload : List Byte) (s : State) : Out :=
  .next (if kind.toNat ∈ requestCodes then s else badType p kind tag s)

/-- An event on a port's receive line: none while the part is in reset or the line in a break. -/
def lineEvent (p : Port) (f : State → State) (s : State) : State := if s.deaf p then s else f s

/-- What one byte does to the receiver of port `p` (R153): the mode it leaves, and the command of the
frame it ends, if it ends one. Every frame ends in hunting, whether it is taken or discarded. -/
def Receiver.take (p : Port) (x : Byte) : Receiver → Receiver × Option Instr
  | .hunting => (if x = requestSync then .collecting [] else .hunting, none)
  | .collecting [] =>
    if x.toNat < 2 ∨ 250 < x.toNat then (.hunting, some (.lengthOutOfRange p))
    else (.collecting [x], none)
  | .collecting (len :: got) =>
    match got with
    | kind :: tag :: pl =>
      if len.toNat ≤ got.length then
        (.hunting, some (if byteSum (len :: got ++ [x]) = 0 then requestOf p kind tag pl
          else .checkError p))
      else (.collecting (len :: got ++ [x]), none)
    | _ => (.collecting (len :: got ++ [x]), none)

/-- A byte arrives on a port's receive line (R153): the receiver takes it, and the command of a frame
it ends joins the waiting commands. In reset and in a break no byte is taken (R154). No command of
the table is a byte: a step takes whole frames, and this operation says how they come about (log 6). -/
def receiveByte (p : Port) (x : Byte) (s : State) : State :=
  if s.deaf p then s
  else
    let r := (s.port p).receiver.take p x
    { s.updPort p fun y => { y with receiver := r.1 } with pending := s.pending ++ r.2.toList }

/-- A frame ends on a port without being taken: the receiver is hunting, and link flags are set (R153,
R154). -/
def endFrame (p : Port) (f : LinkFlags → LinkFlags) (s : State) : State :=
  s.updPort p fun x => { x with receiver := .hunting, flags := f x.flags }

/-- CHECK_ERROR: a complete frame with a wrong check is discarded, and the check-error flag set
(R153). -/
def execCheckError (p : Port) (s : State) : Out :=
  .next (lineEvent p (endFrame p fun f => { f with check := true }) s)

/-- LENGTH_OUT_OF_RANGE: a LENGTH outside 2–250 discards the partial frame and sets the check-error
flag (R153). -/
def execLengthOutOfRange (p : Port) (s : State) : Out :=
  .next (lineEvent p (endFrame p fun f => { f with check := true }) s)

/-- OVERRUN_FRAME: a frame with a correct check completes while a request is outstanding (R155). With
none outstanding the frame would have been taken, and this event does not arise. -/
def execOverrunFrame (p : Port) (s : State) : Out :=
  .next (lineEvent p
    (fun s => if (s.port p).outstanding.isSome then markOverrun p (hear p s) else s) s)

/-- GAP: a pause of more than 10 ms inside a frame discards it and sets the gap-error flag (R154). -/
def execGap (p : Port) (s : State) : Out :=
  .next (lineEvent p (endFrame p fun f => { f with gap := true }) s)

/-- BREAK: the receive line is held in space for 1 ms: the break flag is set, a partial frame is
discarded, and the receiver hunts until the line is idle (R154). -/
def execBreak (p : Port) (s : State) : Out :=
  .next (event (fun s => endFrame p (fun f => { f with brk := true })
    (s.updPort p fun x => { x with inBreak := true })) s)

/-- BREAK_END: the receive line has returned to idle after a break (R154). -/
def execBreakEnd (p : Port) (s : State) : Out :=
  .next (event (fun s => s.updPort p fun x => { x with inBreak := false }) s)

/-- REPLY_END: the check byte of the reply has been sent, and the request is no longer outstanding
(R155). -/
def execReplyEnd (p : Port) (s : State) : Out :=
  .next (event (fun s => s.updPort p fun x => { x with outstanding := none }) s)

end Sys2Proof.Machine
end

