-- ==== Sys2Proof/Machine/Store.lean ====
section
/-!
DEFINITION. The commands of chapter 10 (Settings Store and Start-Up): the image, the load and its
completion, saving, RESTART, and the reset pin.
-/

namespace Sys2Proof.Machine

open Host

/-! ### The image (R164) -/

/-- The settings of a zone clamped and reconciled as R164 gives. -/
def ZoneSettings.reconciled (c : ZoneSettings) : ZoneSettings :=
  let floor := clamp 0 100 c.floor
  let hold := clampInt 0 125 c.hold
  { floor := floor, ceiling := max (clamp 0 100 c.ceiling) floor
    failsafe := clamp 0 100 c.failsafe, hysteresis := clamp 0 10 c.hysteresis
    slewUp := clamp 1 100 c.slewUp, slewDown := clamp 1 100 c.slewDown
    hold := hold, critical := max hold (clampInt 0 125 c.critical)
    fanCount := clamp 0 4 c.fanCount, fanDraw := clamp 0 1000 c.fanDraw
    stallSpeed := clamp 0 10000 c.stallSpeed, curve := clampCurve c.curve }

/-- The values of an image that are not numbers are ones their settings know, and its curves and map
entries are in order (R164). -/
def Image.good (m : Image) : Bool :=
  m.bays.toList.all (fun x =>
    (yesNoOfCode x.sheddable).isSome && (yesNoOfCode x.buttonEnabled).isSome)
  && m.zones.toList.all (fun z => curveGood z.curve)
  && m.sensorMap.toList.all (fun e => (mapEntryOfCode e).isSome)
  && m.supplies.toList.all (fun x => (yesNoOfCode x.installed).isSome)
  && (ReservePolicy.ofCode m.reserve).isSome && (Mode.ofCode m.mode).isSome
  && (InsertionPolicy.ofCode m.insertion).isSome && (RestartPolicy.ofCode m.restart).isSome
  && (ExpiryPolicy.ofCode m.expiry).isSome && (ButtonAction.ofCode m.action).isSome
  && (portOfCode m.preferred).isSome

/-- The settings a good image gives, its numbers clamped as the requests clamp them (R164). -/
def Image.settings (m : Image) : Settings :=
  { profiles := m.profiles.map Profile.clamped
    bays := m.bays.map fun x =>
      { zone := zoneOf x.zone, level := levelOf x.level
        sheddable := (yesNoOfCode x.sheddable).getD false
        buttonEnabled := (yesNoOfCode x.buttonEnabled).getD false }
    zones := m.zones.map ZoneSettings.reconciled
    sensorMap := m.sensorMap.map fun e => (mapEntryOfCode e).getD none
    staleness := clamp 10 600 m.staleness
    supplies := m.supplies.map fun x =>
      { installed := (yesNoOfCode x.installed).getD false, capacity := clamp 0 30000 x.capacity }
    budget :=
      { reserve := (ReservePolicy.ofCode m.reserve).getD .one, derate := clamp 50 100 m.derate
        base := clamp 0 20000 m.base, shedDelay := clamp 0 60 m.shedDelay }
    scheduler :=
      { mode := (Mode.ofCode m.mode).getD .strict, startCap := clamp 1 16 m.startCap
        gap := clamp 0 100 m.gap, bypassLimit := clamp 1 32 m.bypassLimit
        settle := clamp 2 50 m.settle, backoff := clamp 5 100 m.backoff
        insertion := (InsertionPolicy.ofCode m.insertion).getD .manual
        restart := (RestartPolicy.ofCode m.restart).getD .hold }
    removal :=
      { window := storedWindow m.window, expiry := (ExpiryPolicy.ofCode m.expiry).getD .remainOff
        action := (ButtonAction.ofCode m.action).getD .notify }
    ports :=
      { preferred := (portOfCode m.preferred).getD .a
        silenceLimit := clamp 2 60 m.silenceLimit } }

/-- The image of a snapshot (R164, R168). -/
def Settings.image (c : Settings) : Image :=
  { profiles := c.profiles
    bays := c.bays.map fun x =>
      { zone := x.zone.val, level := x.level.val, sheddable := boolNat x.sheddable
        buttonEnabled := boolNat x.buttonEnabled }
    zones := c.zones
    sensorMap := c.sensorMap.map mapEntryCode
    staleness := c.staleness
    supplies := c.supplies.map fun x =>
      { installed := boolNat x.installed, capacity := x.capacity }
    reserve := c.budget.reserve.code, derate := c.budget.derate, base := c.budget.base
    shedDelay := c.budget.shedDelay
    mode := c.scheduler.mode.code, startCap := c.scheduler.startCap, gap := c.scheduler.gap
    bypassLimit := c.scheduler.bypassLimit, settle := c.scheduler.settle
    backoff := c.scheduler.backoff, insertion := c.scheduler.insertion.code
    restart := c.scheduler.restart.code
    window := c.removal.window, expiry := c.removal.expiry.code
    action := c.removal.action.code
    preferred := portCode (some c.ports.preferred), silenceLimit := c.ports.silenceLimit }

/-- What a read of the memory gives: the settings of a good image, or none (R165). -/
def readImage (m : Option Image) : Option Settings :=
  match m with
  | none => none
  | some i => if i.good then some i.settings else none

/-! ### The completion of a load (R165, R166) -/

/-- The memory as a load finds it. -/
def memoryFound (answer : LoadAnswer) (m : Option Image) : Option Image :=
  match answer with
  | .other image => image
  | .noAnswer | .held => m

/-- The settings state and the settings a load ends in (R165): READY with a good image, else DEFAULTS
with the factory values. -/
def takeLoad (answer : LoadAnswer) (s : State) : State :=
  let m := memoryFound answer s.memory
  match (if answer = .noAnswer then none else readImage m) with
  | some c => { s with memory := m, store := .ready, storeMs := 0, settings := c }
  | none => { s with memory := m, store := .defaults, storeMs := 0, settings := Settings.factory }

/-- The per-bay settings take effect: the attention request is held clear where button enabled has
become no (R18), and a bay whose settings changed is posted (R3). -/
def takeBaySettings (was s : State) : State :=
  allBays.foldl (fun t b =>
    postBay b (was.report b)
      (setBay b ((t.bay b).heldAttention (t.bayCfg b).buttonEnabled) t)) s

/-- A supply whose installed setting or capacity changed is posted (9.4). -/
def postSupplies (was s : State) : State :=
  (List.finRange 4).foldl (fun t i =>
    postIf (decide (was.settings.supplies.get i ≠ t.settings.supplies.get i)) (.supply i) t) s

/-- The zone settings take effect (R100, R112, R113). -/
def takeZones (s : State) : State := (List.finRange 4).foldl (fun t z => applyZone z t) s

/-- An entry takes its bay's reloaded level; a changed level resets its bypass count (R31). -/
def State.relevel (s : State) (e : Entry) : Entry :=
  let l := (s.bayCfg e.bay).level
  if e.level = l then e else { e with level := l, bypass := 0 }

/-- The queue is re-sorted by the reloaded levels (R31). -/
def resortQueue (s : State) : State := { s with queue := sortQueue (s.queue.map s.relevel) }

/-- Each STARTING bay receives a fresh surge window of the reloaded length (R42). -/
def freshWindows (s : State) : State :=
  { s with bays := s.bays.map fun y =>
      if y.state = .starting then
        { y with timer := .surge ((s.settings.profiles.get y.profile).surgeTime * Config.tickMs) }
      else y }

/-- The settles that waited for the load end, in ascending bay number (R6, R7, R166). -/
def endSettles (contacts : Vector ProfileId 60) (s : State) : State :=
  takeSettles (fun _ t => t = .settled) contacts s

/-- What the blocks take up at the completion before the Ledger's single recompute (R166). -/
def takeSettings (answer : LoadAnswer) (s : State) : State :=
  let t := post .enclosure (takeLoad answer s)
  let u := takeZones (postSupplies s (takeBaySettings s t))
  let v := setRole u.settings.ports.preferred (dropUnmapped u)
  freshWindows (resortQueue v)

/-- The collapse as a reload leaves it (R67): a reload that leaves no good supply while bays are powered
is a collapse, whether or not the flag is set already (log 22). -/
def reloadCollapse (s : State) : State :=
  if s.goodSupplies.isEmpty && s.collapse then stopAll s else judgeCollapse s

/-- The completion of a load (R165, R166): the new values, the re-sort and the fresh windows, the
Ledger's single recompute with a collapse where no good supply is left, the waiting settles, and then
the admission opportunity. -/
def loadComplete (answer : LoadAnswer) (contacts : Vector ProfileId 60) (s : State) : State :=
  if s.loading then
    opportunity (endSettles contacts (recompute (reloadCollapse (takeSettings answer s))))
  else s

/-- LOAD_COMPLETE: the load under way ends. -/
def execLoadComplete (answer : LoadAnswer) (contacts : Vector ProfileId 60) (s : State) : Out :=
  .next (event (loadComplete answer contacts) s)

/-! ### Saving (R168, R169) -/

/-- SAVE SETTINGS done (R168). -/
def saveAct (_ : Unit) (s : State) : Answer :=
  if s.store.isSaving then refuse .busy s
  else
    report (le16 (Config.snapshotSum s.settings.image).toNat ++ s.settings.ports.block)
      (post .enclosure { s with
        store := .saving (s.store = .ready) s.settings, storeMs := Config.saveMs })

/-- SAVE SETTINGS: take a snapshot of every saved setting and begin writing it. -/
def execSaveSettings (p : Port) (tag : Byte) (payload : List Byte) (s : State) : Out :=
  .next (request .controlling 0x70 p tag (readNothing payload) saveAct s)

/-- The memory after a save that failed. -/
def memoryLeft (left : MemoryLeft) (snapshot : Settings) (m : Option Image) : Option Image :=
  match left with
  | .kept => m
  | .bad => none
  | .whole => some snapshot.image

/-- The end of a save (R169): READY and OK, or the former state and FAILED. -/
def saveEnd (outcome : SaveOutcome) (s : State) : State :=
  match s.store with
  | .saving formerReady snapshot =>
    post .enclosure <| match outcome with
    | .success =>
      { s with store := .ready, storeMs := 0, saveResult := .ok, memory := some snapshot.image }
    | .failure left =>
      { s with store := if formerReady then .ready else .defaults, storeMs := 0
               saveResult := .failed, memory := memoryLeft left snapshot s.memory }
  | _ => s

/-- SAVE_COMPLETE: the write of the snapshot ends. -/
def execSaveComplete (outcome : SaveOutcome) (s : State) : Out := .next (event (saveEnd outcome) s)

/-- SAVE_TIMEOUT: 2 s have passed before the write was done, and the save fails (R169). -/
def execSaveTimeout (left : MemoryLeft) (s : State) : Out :=
  .next (event (saveEnd (.failure left)) s)

/-! ### RESTART (R170) -/

/-- A port at the acceptance of RESTART: notes emptied, the change list refilled (R152, R159). -/
def PortState.restarted (x : PortState) : PortState :=
  { x with note := [], noteOverrun := false, changes := Obj.all, attention := true }

/-- A bay at the acceptance of RESTART: the surge window of a STARTING bay is cancelled (R42), the
start-up mark of a SETTLING bay cleared (R7). -/
def Bay.restarted (y : Bay) : Bay :=
  { y with startMark := false, timer := if y.state = .starting then .idle else y.timer }

/-- The engine at the acceptance of RESTART: IDLE, the table kept (R126, R134). -/
def Plan.restarted (pl : Plan) : Plan := { Plan.reset with steps := pl.steps }

/-- RESTART accepted (R170). -/
def restart (s : State) : State :=
  { s with store := .loading true, storeMs := Config.loadMs
           bays := s.bays.map Bay.restarted, plan := s.plan.restarted
           ports := s.ports.map PortState.restarted }

/-- RESTART judged and done (R170). -/
def restartAct (_ : Unit) (s : State) : Answer :=
  if s.plan.engine.active || s.store.isSaving then refuse .busy s else report [] (restart s)

/-- RESTART: reload the settings without removing power from the drawer. -/
def execRestart (p : Port) (tag : Byte) (payload : List Byte) (s : State) : Out :=
  .next (request .controlling 0x71 p tag (readNothing payload) restartAct s)

/-! ### The reset pin (10.3) -/

/-- RESET_ASSERT: while the reset pin is held the switch enables are open; the lights are dark and
the fan drives at 100 % by their output functions (R23, R84, R100). -/
def execResetAssert (s : State) : Out :=
  .next { s with resetHeld := true, bays := s.bays.map fun y => { y with switch := false } }

/-- The supplies at the release of the reset pin: the good fields from the lines (R50). -/
def suppliesAtRelease (powerGood : BitVec 4) : Vector Supply 4 :=
  Vector.ofFn fun i : SupplyId => { good := powerGood.getLsbD i.val, qualify := none }

/-- The release of the reset pin, or the end of power-on (R167): every block takes its reset values,
the supplies follow their lines (R50), the collapse flag is set if none is good (R67), and each bay
present enters SETTLING with the start-up mark. The memory keeps its content, but a save cut short
leaves an image that fails its sum (R169). -/
def resetRelease (presence : BitVec 60) (powerGood : BitVec 4) (s : State) : State :=
  let base := { State.reset with
    pending := s.pending
    memory := if s.store.isSaving then none else s.memory
    supplies := suppliesAtRelease powerGood }
  let t := { base with collapse := base.goodSupplies.isEmpty }
  recompute (allBays.foldl
    (fun u b => if presence.getLsbD b.val then settleStart b u else u) t)

/-- RESET_RELEASE: the reset pin is released, or power-on ends. -/
def execResetRelease (presence : BitVec 60) (powerGood : BitVec 4) (s : State) : Out :=
  .next (resetRelease presence powerGood s)

end Sys2Proof.Machine
end

