-- ==== Sys2Proof/Machine/Dispatch.lean ====
section
/-!
DEFINITION. The dispatch: one arm for each command of the table, each one call of its meaning.
-/

namespace Sys2Proof.Machine

open Host

/-- The effect of a command on everything but the queue of waiting commands. -/
def exec (i : Instr) (s : State) : Host.Outcome State Fault Refusal :=
  match i with
  | .identify p tag payload => Sys2Proof.Machine.execIdentify p tag payload s
  | .status p tag payload => Sys2Proof.Machine.execStatus p tag payload s
  | .readChanges p tag payload => Sys2Proof.Machine.execReadChanges p tag payload s
  | .bayQuery p tag payload => Sys2Proof.Machine.execBayQuery p tag payload s
  | .queueQuery p tag payload => Sys2Proof.Machine.execQueueQuery p tag payload s
  | .ledgerQuery p tag payload => Sys2Proof.Machine.execLedgerQuery p tag payload s
  | .zoneQuery p tag payload => Sys2Proof.Machine.execZoneQuery p tag payload s
  | .lightQuery p tag payload => Sys2Proof.Machine.execLightQuery p tag payload s
  | .removalQuery p tag payload => Sys2Proof.Machine.execRemovalQuery p tag payload s
  | .readProfile p tag payload => Sys2Proof.Machine.execReadProfile p tag payload s
  | .readStep p tag payload => Sys2Proof.Machine.execReadStep p tag payload s
  | .powerOn p tag payload => Sys2Proof.Machine.execPowerOn p tag payload s
  | .powerOff p tag payload => Sys2Proof.Machine.execPowerOff p tag payload s
  | .prepareRemoval p tag payload => Sys2Proof.Machine.execPrepareRemoval p tag payload s
  | .cancelRemoval p tag payload => Sys2Proof.Machine.execCancelRemoval p tag payload s
  | .clearFault p tag payload => Sys2Proof.Machine.execClearFault p tag payload s
  | .declineAttention p tag payload => Sys2Proof.Machine.execDeclineAttention p tag payload s
  | .setBay p tag payload => Sys2Proof.Machine.execSetBay p tag payload s
  | .claim p tag payload => Sys2Proof.Machine.execClaim p tag payload s
  | .release p tag payload => Sys2Proof.Machine.execRelease p tag payload s
  | .handover p tag payload => Sys2Proof.Machine.execHandover p tag payload s
  | .takeover p tag payload => Sys2Proof.Machine.execTakeover p tag payload s
  | .sendNote p tag payload => Sys2Proof.Machine.execSendNote p tag payload s
  | .readNote p tag payload => Sys2Proof.Machine.execReadNote p tag payload s
  | .setPortSettings p tag payload => Sys2Proof.Machine.execSetPortSettings p tag payload s
  | .setIndication p tag payload => Sys2Proof.Machine.execSetIndication p tag payload s
  | .clearIndication p tag payload => Sys2Proof.Machine.execClearIndication p tag payload s
  | .enclosureLocate p tag payload => Sys2Proof.Machine.execEnclosureLocate p tag payload s
  | .lightTest p tag payload => Sys2Proof.Machine.execLightTest p tag payload s
  | .reportDriveTemperatures p tag payload => Sys2Proof.Machine.execReportDriveTemperatures p tag payload s
  | .setZone p tag payload => Sys2Proof.Machine.execSetZone p tag payload s
  | .setCurve p tag payload => Sys2Proof.Machine.execSetCurve p tag payload s
  | .setSensorMap p tag payload => Sys2Proof.Machine.execSetSensorMap p tag payload s
  | .setProfile p tag payload => Sys2Proof.Machine.execSetProfile p tag payload s
  | .setScheduler p tag payload => Sys2Proof.Machine.execSetScheduler p tag payload s
  | .setSupply p tag payload => Sys2Proof.Machine.execSetSupply p tag payload s
  | .setBudget p tag payload => Sys2Proof.Machine.execSetBudget p tag payload s
  | .setRemoval p tag payload => Sys2Proof.Machine.execSetRemoval p tag payload s
  | .writeStep p tag payload => Sys2Proof.Machine.execWriteStep p tag payload s
  | .startPlan p tag payload => Sys2Proof.Machine.execStartPlan p tag payload s
  | .pausePlan p tag payload => Sys2Proof.Machine.execPausePlan p tag payload s
  | .resumePlan p tag payload => Sys2Proof.Machine.execResumePlan p tag payload s
  | .abortPlan p tag payload => Sys2Proof.Machine.execAbortPlan p tag payload s
  | .checkPlan p tag payload => Sys2Proof.Machine.execCheckPlan p tag payload s
  | .saveSettings p tag payload => Sys2Proof.Machine.execSaveSettings p tag payload s
  | .restart p tag payload => Sys2Proof.Machine.execRestart p tag payload s
  | .unknownRequestType p kind tag payload => Sys2Proof.Machine.execUnknownRequestType p kind tag payload s
  | .checkError p => Sys2Proof.Machine.execCheckError p s
  | .lengthOutOfRange p => Sys2Proof.Machine.execLengthOutOfRange p s
  | .overrunFrame p => Sys2Proof.Machine.execOverrunFrame p s
  | .gap p => Sys2Proof.Machine.execGap p s
  | .breakBegin p => Sys2Proof.Machine.execBreak p s
  | .replyEnd p => Sys2Proof.Machine.execReplyEnd p s
  | .resetAssert => Sys2Proof.Machine.execResetAssert s
  | .resetRelease presence powerGood => Sys2Proof.Machine.execResetRelease presence powerGood s
  | .presenceArrives b => Sys2Proof.Machine.execPresenceArrives b s
  | .presenceLost b => Sys2Proof.Machine.execPresenceLost b s
  | .pull b => Sys2Proof.Machine.execPull b s
  | .settleEnd b contacts => Sys2Proof.Machine.execSettleEnd b contacts s
  | .buttonPress b => Sys2Proof.Machine.execButtonPress b s
  | .activityPulse b => Sys2Proof.Machine.execActivityPulse b s
  | .activityDarkTimerExpiry b => Sys2Proof.Machine.execActivityDarkTimerExpiry b s
  | .startTrip b => Sys2Proof.Machine.execStartTrip b s
  | .runTrip b => Sys2Proof.Machine.execRunTrip b s
  | .surgeWindowEnd b => Sys2Proof.Machine.execSurgeWindowEnd b s
  | .backoffEnd b => Sys2Proof.Machine.execBackoffEnd b s
  | .stopWindowEnd b => Sys2Proof.Machine.execStopWindowEnd b s
  | .staggerGapExpiry => Sys2Proof.Machine.execStaggerGapExpiry s
  | .powerGoodFall k => Sys2Proof.Machine.execPowerGoodFall k s
  | .powerGoodRise k => Sys2Proof.Machine.execPowerGoodRise k s
  | .qualifyTimerExpiry k => Sys2Proof.Machine.execQualifyTimerExpiry k s
  | .shedTimerExpiry => Sys2Proof.Machine.execShedTimerExpiry s
  | .removalWindowExpiry b => Sys2Proof.Machine.execRemovalWindowExpiry b s
  | .locateTimerExpiry p b => Sys2Proof.Machine.execLocateTimerExpiry p b s
  | .enclosureLocateExpiry p => Sys2Proof.Machine.execEnclosureLocateExpiry p s
  | .lightTestExpiry => Sys2Proof.Machine.execLightTestExpiry s
  | .controlPeriod z sensors speeds => Sys2Proof.Machine.execControlPeriod z sensors speeds s
  | .loadComplete answer contacts => Sys2Proof.Machine.execLoadComplete answer contacts s
  | .saveComplete outcome => Sys2Proof.Machine.execSaveComplete outcome s
  | .saveTimeout left => Sys2Proof.Machine.execSaveTimeout left s
  | .planStep => Sys2Proof.Machine.execPlanStep s
  | .waitTimeExpiry => Sys2Proof.Machine.execWaitTimeExpiry s
  | .breakEnd p => Sys2Proof.Machine.execBreakEnd p s
  | .buttonRelease b => Sys2Proof.Machine.execButtonRelease b s

end Sys2Proof.Machine
end

