-- ==== Sys2Proof/Machine/Step.lean ====
section
/-!
DEFINITION. The step of the EB-60: the command at the front of the queue acts on the state with the
rest of the queue; with no command waiting, one millisecond passes (DESIGN CHOICE, log 1).
-/

namespace Sys2Proof.Machine

open Host

/-- One step. -/
def step (s : State) : Host.Outcome State Fault Refusal :=
  match s.pending with
  | [] => .next (elapse s)
  | c :: rest => exec c { s with pending := rest }

/-- The state with the command a table word spells put at the front of its queue; unchanged where the
word spells none. -/
def State.withFetchWord (s : State) (nbits w : Nat) : State :=
  match decodeTableWord nbits w with
  | none => s
  | some c => { s with pending := c :: s.pending }

end Sys2Proof.Machine
end

