-- ==== Sys2Proof/Safety.lean ====
section
/-!
DEFINITION. What holds of the drawer in every state it can reach (the invariants the manual states in
prose), and the terms the statements are made in: a port that listens, a request that is only
answered, the length table of 11.2, and the classes of 8.2.
-/

namespace Sys2Proof.Machine

/-! ### The spin-up queue (R29, R30) -/

/-- A bay is in the queue exactly when it is QUEUED, and at most once; its level and origin copies
agree with the bay; the queue ascends by level; bypass counts stay in 0–32 (R29). -/
abbrev State.QueueOk (s : State) : Prop :=
  (∀ b : BayId, (s.bay b).state = .queued ↔ b ∈ s.queue.map (·.bay))
  ∧ (s.queue.map (·.bay)).Nodup
  ∧ (∀ e ∈ s.queue, e.level = (s.bayCfg e.bay).level ∧ (s.bay e.bay).origin = some e.origin
      ∧ e.bypass ≤ 32)
  ∧ s.queue.Pairwise (fun x y => x.level ≤ y.level)

/-! ### Switches (R23) -/

/-- Every switch enable is closed exactly in STARTING and READY, and open while reset is held. -/
abbrev State.SwitchesOk (s : State) : Prop :=
  ∀ b : BayId, (s.bay b).switch = (!s.resetHeld && (s.bay b).state.powered)

/-! ### Change lists (R159, R160) -/

/-- A change list holds no object twice and at most 71, and its attention output is asserted exactly
while it is not empty (R159, R160). -/
abbrev PortState.ListOk (x : PortState) : Prop :=
  x.changes.Nodup ∧ x.changes.length ≤ 71 ∧ x.attention = !x.changes.isEmpty

/-- Both ports' lists are in order. -/
abbrev State.ListsOk (s : State) : Prop := s.ports.a.ListOk ∧ s.ports.b.ListOk

/-! ### The Ledger (R55–R63, R67) -/

/-- The totals are those of 3.3 for the state as it stands, the flags follow them, and the shed timer
runs exactly while the drawer is over budget with shedding enabled. -/
abbrev State.LedgerOk (s : State) : Prop :=
  s.totals = s.computeTotals
  ∧ s.overBudget = decide (s.totals.allowance < s.totals.committed)
  ∧ s.redundancyLost = s.gross.2
  ∧ s.collapse = s.goodSupplies.isEmpty
  ∧ s.shed.isSome = (s.overBudget && decide (s.settings.budget.shedDelay ≠ 0))

/-! ### Settings in range (R8, R24, R50, R53, R70, R103, R118, R140) -/

/-- A profile in its ranges (R8). -/
abbrev Profile.InRange (x : Profile) : Prop :=
  x.surge ≤ 2000 ∧ 1 ≤ x.surgeTime ∧ x.surgeTime ≤ 300 ∧ x.run ≤ x.surge ∧ x.boost ≤ 30
  ∧ x.allowance ≤ 3 ∧ x.stopTime ≤ 300

/-- A curve a zone can hold: 2 to 6 points, strictly ascending, in range (R108). -/
abbrev CurveInRange (c : List (Int × Nat)) : Prop :=
  2 ≤ c.length ∧ c.length ≤ 6 ∧ c.Pairwise (fun x y => x.1 < y.1)
  ∧ ∀ q ∈ c, -40 ≤ q.1 ∧ q.1 ≤ 125 ∧ q.2 ≤ 100

/-- Zone settings in their ranges, the pairs in order (R118). -/
abbrev ZoneSettings.InRange (c : ZoneSettings) : Prop :=
  c.floor ≤ c.ceiling ∧ c.ceiling ≤ 100 ∧ c.failsafe ≤ 100 ∧ c.hysteresis ≤ 10
  ∧ 1 ≤ c.slewUp ∧ c.slewUp ≤ 100 ∧ 1 ≤ c.slewDown ∧ c.slewDown ≤ 100
  ∧ 0 ≤ c.hold ∧ c.hold ≤ c.critical ∧ c.critical ≤ 125
  ∧ c.fanCount ≤ 4 ∧ c.fanDraw ≤ 1000 ∧ c.stallSpeed ≤ 10000 ∧ CurveInRange c.curve

/-- Scheduler settings in their ranges (R24). -/
abbrev SchedulerSettings.InRange (c : SchedulerSettings) : Prop :=
  1 ≤ c.startCap ∧ c.startCap ≤ 16 ∧ c.gap ≤ 100 ∧ 1 ≤ c.bypassLimit ∧ c.bypassLimit ≤ 32
  ∧ 2 ≤ c.settle ∧ c.settle ≤ 50 ∧ 5 ≤ c.backoff ∧ c.backoff ≤ 100

/-- Budget settings in their ranges (R53). -/
abbrev BudgetSettings.InRange (c : BudgetSettings) : Prop :=
  50 ≤ c.derate ∧ c.derate ≤ 100 ∧ c.base ≤ 20000 ∧ c.shedDelay ≤ 60

/-- A removal window as stored: none, or 10–3600 s (R70). -/
abbrev WindowInRange (n : Nat) : Prop := n = 0 ∨ (10 ≤ n ∧ n ≤ 3600)

/-- Every saved setting lies in its range. -/
abbrev Settings.InRange (c : Settings) : Prop :=
  (∀ i : ProfileId, (c.profiles.get i).InRange) ∧ (∀ z : ZoneId, (c.zones.get z).InRange)
  ∧ 10 ≤ c.staleness ∧ c.staleness ≤ 600
  ∧ (∀ i : SupplyId, (c.supplies.get i).capacity ≤ 30000)
  ∧ c.budget.InRange ∧ c.scheduler.InRange ∧ WindowInRange c.removal.window
  ∧ 2 ≤ c.ports.silenceLimit ∧ c.ports.silenceLimit ≤ 60

/-- The settings in force lie in their ranges. -/
abbrev State.SettingsOk (s : State) : Prop := s.settings.InRange

/-! ### Bay records (R1, R2, R5, R23, R73, R78, R84, R90) -/

/-- The timer a bay may have in a state (R5, R23, R76). -/
def BayTimer.fits : BayTimer → BayState → Bool
  | .idle, .settling | .idle, .backoff | .idle, .stopping => false
  | .idle, _ => true
  | .settle _, .settling | .settled, .settling | .surge _, .starting | .backoff _, .backoff
  | .stop _, .stopping | .removal _, .removable => true
  | _, _ => false

/-- The states in which the origin is present whatever the flags (R1). -/
def BayState.hasOrigin : BayState → Bool
  | .queued | .starting | .backoff => true
  | _ => false

/-- Which fields are present: carrier code, origin, fault cause, drive temperature (R1). -/
abbrev Bay.PresenceOk (y : Bay) : Prop :=
  y.code.isSome = !y.state.noCarrier
  ∧ y.origin.isSome = (y.state.hasOrigin || (decide (y.state = .stopping) && y.requeue))
  ∧ y.fault.isSome = decide (y.state = .fault)
  ∧ (y.temp.isSome → y.state.powered)

/-- The four flags and the start-up mark (R1, R73, R78). -/
abbrev Bay.FlagsOk (y : Bay) : Prop :=
  (y.startMark → y.state = .settling)
  ∧ (y.requeue → y.state = .stopping) ∧ (y.removalIntended → y.state = .stopping)
  ∧ ¬(y.requeue ∧ y.removalIntended)
  ∧ (y.wasPowered → y.state = .removable ∨ y.removalIntended)

/-- A bay without an identified carrier has the EMPTY profile and no drive-bound indication; a port's
locate timer is set exactly while LOCATE is in its set (R2, R84, R90). -/
abbrev Bay.LightsOk (y : Bay) : Prop :=
  (y.state.noCarrier → y.profile = 7 ∧ y.override = false
    ∧ y.indications.a.driveBound = false ∧ y.indications.b.driveBound = false)
  ∧ y.locate.a.isSet = y.indications.a.locate ∧ y.locate.b.isSet = y.indications.b.locate

/-- A bay record in order, beside its saved settings (R1, R18, R43). -/
abbrev Bay.Ok (c : BaySettings) (y : Bay) : Prop :=
  y.PresenceOk ∧ y.FlagsOk ∧ y.LightsOk ∧ y.timer.fits y.state
  ∧ (y.attention → c.buttonEnabled ∧ !y.state.noCarrier ∧ y.state ≠ .removable)
  ∧ y.attempts ≤ 4 ∧ (y.state ≠ .starting → y.state ≠ .fault → y.attempts ≤ 3)

/-- Every bay record is in order. -/
abbrev State.BaysOk (s : State) : Prop := ∀ b : BayId, (s.bay b).Ok (s.bayCfg b)

/-! ### The Plan Engine (R126, R131–R137) -/

/-- The items of R126 that follow the engine state. -/
abbrev Plan.ItemsOk (pl : Plan) : Prop :=
  pl.outcome.isSome = decide (pl.engine = .done)
  ∧ pl.owner.isSome = decide (pl.engine ≠ .idle) ∧ pl.current.isSome = decide (pl.engine ≠ .idle)
  ∧ (pl.engine.active = false → pl.pendingSet = [] ∧ pl.lost = 0)
  ∧ (pl.inProgress → pl.engine = .running ∨ pl.engine = .paused)
  ∧ (pl.inProgress → pl.currentStep.map (·.action) = some .waitTime
      ∨ pl.currentStep.map (·.action) = some .waitSettled)

/-- A WAIT_TIME step is in progress (R131). -/
def Plan.awaitsTime (pl : Plan) : Bool :=
  pl.inProgress && (pl.currentStep.map (·.action) = some .waitTime)

/-- The wait timer runs in RUNNING and is frozen in PAUSED, exactly while a WAIT_TIME step is in
progress (R131, R135). -/
def Plan.waitOk (pl : Plan) : Bool :=
  match pl.wait with
  | .idle => !pl.awaitsTime
  | .running _ => pl.awaitsTime && pl.engine = .running
  | .frozen _ => pl.awaitsTime && pl.engine = .paused

/-- The plan is in order: the pending set holds only bays that stay pending, each once (R132); the lost
count is at most 60 (R126); a running WAIT_SETTLED step has bays to wait for (R133); an abort waits for a start (R137). -/
abbrev State.PlanOk (s : State) : Prop :=
  s.plan.ItemsOk ∧ s.plan.waitOk ∧ s.plan.pendingSet.Nodup ∧ s.plan.lost ≤ 60
  ∧ (∀ b ∈ s.plan.pendingSet, (s.bay b).staysPending)
  ∧ (s.plan.engine = .running → s.plan.awaitsSettled → s.plan.pendingSet ≠ [])
  ∧ (s.plan.engine = .aborting → s.planStarting)

/-! ### Cooling zones (R99, R105, R112–R116) -/

/-- A temperature of R99, if there is one. -/
abbrev TempInRange (t : Option Int) : Prop := ∀ x ∈ t, -40 ≤ x ∧ x ≤ 125

/-- A fan by its index and its zone's fan count (R99, R113–R115). -/
abbrev Fan.Ok (count i : Nat) (f : Fan) : Prop :=
  (f.state = .absent ↔ count ≤ i) ∧ f.stallRun < 3 ∧ f.recoveryRun < 3
  ∧ (f.state ≠ .running → f.stallRun = 0) ∧ (f.state ≠ .failed → f.recoveryRun = 0)

/-- A zone record beside its settings (R99, R105, R106, R112). -/
abbrev Zone.Ok (c : ZoneSettings) (x : Zone) : Prop :=
  x.blind = x.temp.isNone ∧ TempInRange x.temp ∧ TempInRange x.curveInput
  ∧ x.ceiling = (if x.overheat then 100 else c.ceiling)
  ∧ x.reservation = max x.ceiling x.applied
  ∧ x.applied ≤ 100 ∧ x.demand ≤ 100 ∧ x.boost ≤ 40

/-- Zones, fans, sensors and drive temperatures are in order. -/
abbrev State.ZonesOk (s : State) : Prop :=
  (∀ z : ZoneId, (s.zone z).Ok (s.zoneCfg z) ∧ (s.zone z).degraded = s.hasFailedFan z)
  ∧ (∀ z : ZoneId, ∀ i : Fin 4, (s.fans.get (fanOf z i)).Ok (s.zoneCfg z).fanCount i.val)
  ∧ (∀ i : SensorId, TempInRange (s.sensors.get i).reading
      ∧ (s.sensors.get i).valid = (s.sensors.get i).reading.isSome
      ∧ (s.settings.sensorMap.get i = none → (s.sensors.get i).reading = none))
  ∧ (∀ b : BayId, TempInRange ((s.bay b).temp.map (·.value)))

/-! ### Ports (R148, R151, R152, R171) -/

/-- A receiver hunts, or collects a frame that its LENGTH has not yet ended (R153). -/
def Receiver.ok : Receiver → Bool
  | .hunting | .collecting [] => true
  | .collecting (len :: got) => 2 ≤ len.toNat && len.toNat ≤ 250 && got.length ≤ len.toNat

/-- A port's receiver, note slot, silence and reply: a receiver in a break hunts (R154), an empty slot
never holds its overrun flag (R152), a note has at most 16 bytes, and a reply fits its frame (R171). -/
abbrev PortState.LinkOk (x : PortState) : Prop :=
  x.receiver.ok ∧ (x.inBreak → x.receiver = .hunting)
  ∧ x.note.length ≤ 16 ∧ (x.noteOverrun → x.note ≠ []) ∧ x.silenceMs ≤ 65535000
  ∧ (∀ r ∈ x.outstanding, r.payload.length ≤ 247)

/-- Both ports are in order. -/
abbrev State.LinksOk (s : State) : Prop := s.ports.a.LinkOk ∧ s.ports.b.LinkOk

/-! ### The light frame (R84, R85) -/

/-- The light frame position is one of 0–1999 ms. -/
abbrev State.FrameOk (s : State) : Prop := s.frame < 2000

/-! ### All of them -/

/-- Every invariant of the drawer. -/
abbrev State.Inv (s : State) : Prop :=
  s.QueueOk ∧ s.SwitchesOk ∧ s.ListsOk ∧ s.LedgerOk ∧ s.SettingsOk ∧ s.BaysOk ∧ s.PlanOk
  ∧ s.ZonesOk ∧ s.LinksOk ∧ s.FrameOk

/-! ### The terms of the statements -/

/-- A port listens: the part is out of reset, the line is not in a break, and no request of the port
is outstanding (R153–R155). -/
abbrev State.Listening (s : State) (p : Port) : Prop :=
  s.resetHeld = false ∧ (s.port p).inBreak = false ∧ (s.port p).outstanding = none

/-- A port listens and the settings state is not LOADING, so that a request of right length reaches
its class check (R157). -/
abbrev State.Taking (s : State) (p : Port) : Prop := s.Listening p ∧ s.loading = false

/-- A port takes requests and is CONTROLLING, so that every request of right length reaches its own
section (R142, R157). -/
abbrev State.Commanding (s : State) (p : Port) : Prop := s.Taking p ∧ s.controlling = p

/-- Command `c` in state `s` is answered on port `p`: its reply of TYPE `code` carries `r` and `pl`,
and the machine is in state `t` but for that reply. -/
abbrev Answers (c : Instr) (s : State) (p : Port) (code : Nat) (tag : Byte) (r : Result)
    (pl : List Byte) (t : State) : Prop :=
  exec c s = .next (sendReply p code tag { state := t, result := r, payload := pl })

/-- The state in which bay `b` joins the queue of `s` with an origin (R30), its record else as `f`
leaves it. -/
def queued (b : BayId) (o : Origin) (f : Bay → Bay) (s : State) : State :=
  opportunity (changeBay b
    (fun y => { f y with state := .queued, origin := some o, timer := .idle })
    { s with queue :=
        insertEntry { bay := b, level := (s.bayCfg b).level, origin := o, bypass := 0 } s.queue })

/-- The record of a bay that enters EMPTY with a last event (R2, R15): only the owner, the LOCATE
indications, the timers of its lights and its button debouncer are kept. -/
def Bay.emptyRecord (ev : LastEvent) (y : Bay) : Bay :=
  { Bay.reset with
    lastEvent := ev, owner := y.owner
    indications :=
      { a := { IndSet.empty with locate := y.indications.a.locate }
        b := { IndSet.empty with locate := y.indications.b.locate } }
    locate := y.locate, dark := y.dark, buttonArmed := y.buttonArmed }

/-! ### Lengths and classes of requests (8.2, 11.2) -/

/-- The payload length 11.2 gives a TYPE, where it is one figure. -/
def fixedLength (code : Nat) : Option Nat :=
  if code ∈ [0x01, 0x02, 0x03, 0x06, 0x22, 0x23, 0x25, 0x33, 0x62, 0x63, 0x64, 0x70, 0x71] then some 0
  else if code ∈ [0x05, 0x07, 0x09, 0x0A, 0x61, 0x65] then some 1
  else if code ∈ [0x08, 0x0B] then some 2
  else if code ∈ [0x04, 0x26, 0x32] then some 3
  else if code ∈ [0x52, 0x54] then some 5
  else if code = 0x53 then some 6
  else if code = 0x51 then some 9
  else if code = 0x50 then some 11
  else if code = 0x43 then some 12
  else if code = 0x41 then some 16
  else none

/-- The bytes that follow the bay list in a request that carries one (11.2). -/
def afterBays (code : Nat) : Option Nat :=
  if code ∈ [0x10, 0x11, 0x12, 0x13, 0x14, 0x15, 0x20, 0x21] then some 0
  else if code = 0x31 then some 1
  else if code = 0x30 then some 3
  else if code = 0x16 then some 6
  else none

/-- The byte at an offset of a payload, as a number. -/
def at8 (pl : List Byte) (i : Nat) : Nat := (pl.getD i 0).toNat

/-- The presence mask of a request of settings, and how many settings it marks (R173). -/
def maskOf (code : Nat) (pl : List Byte) : Option (Nat × Nat) :=
  if code = 0x16 then some (at8 pl (at8 pl 0 + 1), 5)
  else if code = 0x26 then some (at8 pl 0, 2)
  else if code = 0x41 then some (at8 pl 1 + 256 * at8 pl 2, 11)
  else if code = 0x43 then some (at8 pl 0 + 256 * at8 pl 1, 9)
  else if code = 0x51 then some (at8 pl 0, 8)
  else if code = 0x52 then some (at8 pl 1, 2)
  else if code = 0x53 then some (at8 pl 0, 4)
  else if code = 0x54 then some (at8 pl 0, 3)
  else none

/-- A request of settings marks at least one of them present. -/
def marksOne (code : Nat) (pl : List Byte) : Bool :=
  match maskOf code pl with
  | none => true
  | some (m, n) => (List.range n).any m.testBit

/-- The number of bytes of a payload suits its TYPE, by the table of 11.2 and the counts the payload
states (R172). -/
def lengthSuits (code : Nat) (pl : List Byte) : Bool :=
  let n := at8 pl 0
  match fixedLength code, afterBays code with
  | some k, _ => pl.length = k
  | none, some k => 1 ≤ n && n ≤ 16 && pl.length = 1 + n + k
  | none, none =>
    if code = 0x24 then 1 ≤ pl.length && pl.length ≤ 16
    else if code = 0x40 then 1 ≤ n && n ≤ 30 && pl.length = 1 + 2 * n
    else if code = 0x42 then 2 ≤ pl.length && pl.length = 2 + 2 * at8 pl 1
    else 7 ≤ pl.length && pl.length = 7 + at8 pl 6

/-- The length judgement of R157 passes: the length suits the TYPE, and not every setting is absent. -/
def passesLength (code : Nat) (pl : List Byte) : Bool := lengthSuits code pl && marksOne code pl

/-- The TYPE codes of the requests reserved to the CONTROLLING port (8.2). -/
def controllingCodes : List Nat :=
  [0x22, 0x26, 0x33, 0x41, 0x42, 0x43, 0x50, 0x51, 0x52, 0x53, 0x54, 0x60, 0x61, 0x62, 0x63, 0x64,
   0x65, 0x70, 0x71]

end Sys2Proof.Machine
end

