-- ==== Sys2Proof/Certificates/Slice0/Obligations.lean ====
section
/-!
DEFINITION. The statements for the provers, from the numbered rules of spec/: what each command does,
how the receiver and the judgement of a request work, and what every step keeps.
-/

open Sys2Proof Sys2Proof.Machine

/-- For every command c, waiting commands rest and state s, a step of s with c in front of rest is
exec of c on s with rest waiting. That commands wait in a queue is the model's form (log 2); that
they are taken one at a time, in order, is 9.2. With no command waiting one millisecond passes,
which is the model's choice (log 1): in reset nothing changes; out of reset every bay timer,
locate timer, dark timer, the gap, qualify, shed and light test timers, the control periods and
the bound on a load or save lose 1 ms (at 0 they stay), a plan's running wait timer too,
temperatures age and silences grow by 1 ms up to 65535 s, the light frame advances modulo 2000,
and nothing else changes. (9.2 One request at a time, 95_what_each_step_holds.md, 5.1 Elements
and patterns, log 1) -/
def Obligations.StepTakesTheFrontCommand : Prop :=
  (∀ (c : Instr) (rest : List Instr) (s : State),
      step { s with pending := c :: rest } = exec c { s with pending := rest })
  ∧ ∀ s : State, s.pending = [] →
    (s.resetHeld = true → step s = .next s)
    ∧ (s.resetHeld = false → ∃ t, step s = .next t
      ∧ (∀ b : BayId,
        let tick := fun x : LocateTimer => match x with
          | .running n => .running (n - 1) | .idle => .idle | .indefinite => .indefinite
        t.bay b = { s.bay b with
          timer := match (s.bay b).timer with
            | .idle => .idle | .settled => .settled | .settle n => .settle (n - 1)
            | .surge n => .surge (n - 1) | .backoff n => .backoff (n - 1) | .stop n => .stop (n - 1)
            | .removal n => .removal (n - 1)
          locate := { a := tick (s.bay b).locate.a, b := tick (s.bay b).locate.b }
          dark := (s.bay b).dark.map (· - 1)
          temp := (s.bay b).temp.map fun d => { d with ageMs := min (d.ageMs + 1) 65535000 } })
      ∧ (∀ i : SupplyId, t.supplies.get i = { s.supplies.get i with
          qualify := (s.supplies.get i).qualify.map (· - 1) })
      ∧ (∀ z : ZoneId, t.zone z = { s.zone z with periodMs := (s.zone z).periodMs - 1 })
      ∧ (∀ p : Port, t.port p = { s.port p with
          silenceMs := min ((s.port p).silenceMs + 1) 65535000
          locate := match (s.port p).locate with
            | .running n => .running (n - 1) | .idle => .idle | .indefinite => .indefinite })
      ∧ t = { s with
          bays := t.bays, supplies := t.supplies, zones := t.zones, ports := t.ports
          gap := s.gap.map (· - 1), shed := s.shed.map (· - 1), lightTest := s.lightTest.map (· - 1)
          storeMs := s.storeMs - 1, frame := (s.frame + 1) % 2000
          plan := { s.plan with wait := match s.plan.wait with
            | .running n => .running (n - 1) | .idle => .idle | .frozen n => .frozen n } })

/-- For every command and every state, exec answers a next state, in which the waiting commands are
those that were waiting. No command faults and none is refused by the model; that waiting
commands stand in State is the model's form (log 2). (9.2 One request at a time, log 2) -/
def Obligations.ExecCompletesAndKeepsTheQueue : Prop :=
  ∀ (c : Instr) (s : State), ∃ t, exec c s = .next t ∧ t.pending = s.pending

/-- For every well-formed request i on a port p, the receiver of p reads i from the bytes of its
frame (request sync, LENGTH, TYPE, TAG, payload, CHECK), whatever bytes follow, and goes on with
those bytes. (11.1 Frames, 11.2 Type codes and request payloads, 9.1 Receiving a frame) -/
def Obligations.FrameDecodesToItsRequest : Prop :=
  ∀ (i : Instr) (p : Port) (bs rest : List Byte), i.wf = true → i.frame = some (p, bs) →
    receive p (bs ++ rest) = some (i, rest)

/-- Bytes before a request sync are discarded without effect; a LENGTH below 2 or above 250 ends the
frame as LENGTH_OUT_OF_RANGE; a complete frame whose bytes from LENGTH through CHECK do not sum
to 0 modulo 256 is CHECK_ERROR; an incomplete frame delivers no command. Byte by byte the
receiver does the same: from hunting, out of reset and of a break, the bytes of a run that
completes no frame deliver nothing, and a run that does delivers that frame's command, which
joins the waiting commands, at its last byte, leaves the receiver hunting, and changes nothing
else. In a break no byte is taken. That a byte is an operation beside the commands and that the
frame's command then joins the waiting commands is the model's form (log 6, log 2), and that no
byte is taken in reset its choice (log 16). (9.1 Receiving a frame, log 2, log 6, log 16) -/
def Obligations.ReceiverDiscards : Prop :=
  (∀ (p : Port) (rest : List Byte),
      (∀ junk : List Byte, (0xD5 : Byte) ∉ junk → receive p (junk ++ rest) = receive p rest)
      ∧ (∀ len : Byte, len.toNat < 2 ∨ 250 < len.toNat →
          receive p (0xD5 :: len :: rest) = some (.lengthOutOfRange p, rest))
      ∧ (∀ (kind tag check : Byte) (pl : List Byte), pl.length ≤ 248 →
          ((pl.length + 2) + kind.toNat + tag.toNat + (pl.map BitVec.toNat).sum + check.toNat) % 256 ≠ 0 →
          receive p (0xD5 :: byte (pl.length + 2) :: kind :: tag :: (pl ++ check :: rest))
            = some (.checkError p, rest))
      ∧ (∀ (len : Byte) (part : List Byte), 2 ≤ len.toNat → len.toNat ≤ 250 →
          part.length ≤ len.toNat → receive p (0xD5 :: len :: part) = none))
  ∧ ∀ (p : Port) (bs : List Byte) (s : State),
    (s.resetHeld = true ∨ (s.port p).inBreak = true → ∀ x : Byte, receiveByte p x s = s)
    ∧ (s.resetHeld = false → (s.port p).inBreak = false → (s.port p).receiver = .hunting →
      let fed := fun run : List Byte => run.foldl (fun u x => receiveByte p x u) s
      (receive p bs = none → (fed bs).pending = s.pending)
      ∧ ∀ (i : Instr) (rest : List Byte), receive p bs = some (i, rest) →
          ∃ run, bs = run ++ rest ∧ fed run = { s with pending := s.pending ++ [i] })

/-- The reply to a request of TYPE code has TYPE code with its high bit set, the request's TAG, the
RESULT and the payload, and is outstanding on its port alone; its frame is 0xD6, a LENGTH that
counts TYPE to payload, these fields, and a CHECK that brings the sum from LENGTH through CHECK
to 0 modulo 256. (11.1 Frames) -/
def Obligations.ReplyFrameForm : Prop :=
  ∀ (p : Port) (kind tag : Byte) (a : Answer), a.payload.length ≤ 247 →
    ((sendReply p kind.toNat tag a).port p.peer = a.state.port p.peer) ∧
    ∃ r : Reply, ((sendReply p kind.toNat tag a).port p).outstanding = some r
      ∧ r.kind.toNat = kind.toNat % 128 + 128 ∧ r.tag = tag ∧ r.result = a.result
      ∧ r.payload = a.payload
      ∧ ∃ len check : Byte,
          r.frame = 0xD6 :: len :: r.kind :: tag :: byte a.result.code :: (a.payload ++ [check])
          ∧ len.toNat = a.payload.length + 3
          ∧ (len.toNat + r.kind.toNat + tag.toNat + a.result.code + (a.payload.map BitVec.toNat).sum
              + check.toNat) % 256 = 0

/-- Out of reset: a wrong check and a LENGTH out of range set the port's check-error flag and a gap
its gap-error flag, unless the line is in a break; a break sets the break flag and the receiver
waits for its end; the end of the reply ends the outstanding request; a frame that completes with
a correct check while a request is outstanding sets the overrun flag and restarts the silence
timer. Each of these but the end of a break and of a reply leaves the receiver hunting, a partial
frame being discarded. Nothing else changes. (9.1 Receiving a frame, 9.2 One request at a time) -/
def Obligations.LinkEvents : Prop :=
  ∀ (p : Port) (s : State), s.resetHeld = false →
    ((s.port p).inBreak = false →
      (∀ c ∈ [Instr.checkError p, Instr.lengthOutOfRange p], exec c s = .next { s with
        ports := s.ports.set p { s.port p with
          receiver := .hunting, flags := { (s.port p).flags with check := true } } })
      ∧ exec (.gap p) s = .next { s with
        ports := s.ports.set p { s.port p with
          receiver := .hunting, flags := { (s.port p).flags with gap := true } } }
      ∧ ((s.port p).outstanding.isSome → exec (.overrunFrame p) s = .next { s with
          ports := s.ports.set p { s.port p with
            receiver := .hunting, silenceMs := 0
            flags := { (s.port p).flags with overrun := true } } }))
    ∧ exec (.breakBegin p) s = .next { s with
        ports := s.ports.set p { s.port p with
          receiver := .hunting, inBreak := true, flags := { (s.port p).flags with brk := true } } }
    ∧ exec (.breakEnd p) s = .next { s with
        ports := s.ports.set p { s.port p with inBreak := false } }
    ∧ exec (.replyEnd p) s = .next { s with
        ports := s.ports.set p { s.port p with outstanding := none } }

/-- For every request: while the reset pin is held or the receive line of its port is in a break,
exec leaves the state as it is (log 16); and a well-formed request that completes while one is
outstanding on its port leaves the receiver hunting, restarts the silence timer, sets the overrun
flag, and changes nothing else: no reply and no effect. (9.1 Receiving a frame, 9.2 One request
at a time, log 16) -/
def Obligations.UntakenRequests : Prop :=
  (∀ (i : Instr) (p : Port) (kind tag : Byte) (pl : List Byte) (s : State),
      i.request = some (p, kind, tag, pl) → (s.resetHeld = true ∨ (s.port p).inBreak = true) →
      exec i s = .next s)
  ∧ (∀ (i : Instr) (p : Port) (kind tag : Byte) (pl : List Byte) (s : State), i.wf = true →
      i.request = some (p, kind, tag, pl) → s.resetHeld = false → (s.port p).inBreak = false →
      (s.port p).outstanding.isSome →
      exec i s = .next { s with
        ports := s.ports.set p { s.port p with
          receiver := .hunting, silenceMs := 0
          flags := { (s.port p).flags with overrun := true } } })

/-- On a listening port: a TYPE outside 11.2 is answered BAD_TYPE; a known TYPE whose payload length
does not suit the table of 11.2 and the counts it states, or that has every setting absent,
BAD_LENGTH in every settings state and from either role; of right length during LOADING, unless
IDENTIFY or STATUS, STARTING; out of LOADING a request reserved to the CONTROLLING port
NOT_CONTROLLING from the other. Each such reply has an empty payload, and only the silence of the
port restarts. (9.3 Judging a request, 11.2 Type codes and request payloads, 8.2 Rights) -/
def Obligations.JudgementOrder : Prop :=
  (∀ (p : Port) (kind tag : Byte) (pl : List Byte) (s : State), namesNoRequest kind = true →
      s.Listening p →
      Answers (.unknownRequestType p kind tag pl) s p kind.toNat tag .badType [] (hear p s))
  ∧ (∀ (i : Instr) (p : Port) (kind tag : Byte) (pl : List Byte) (s : State),
      i.request = some (p, kind, tag, pl) → kind.toNat ∈ requestCodes → requestOf p kind tag pl = i →
      s.Listening p → passesLength kind.toNat pl = false →
      Answers i s p kind.toNat tag .badLength [] (hear p s))
  ∧ (∀ (i : Instr) (p : Port) (kind tag : Byte) (pl : List Byte) (s : State),
      i.request = some (p, kind, tag, pl) → kind.toNat ∈ requestCodes → requestOf p kind tag pl = i →
      s.Listening p → s.loading = true → passesLength kind.toNat pl = true →
      kind.toNat ≠ 0x01 → kind.toNat ≠ 0x02 →
      Answers i s p kind.toNat tag .starting [] (hear p s))
  ∧ (∀ (i : Instr) (p : Port) (kind tag : Byte) (pl : List Byte) (s : State),
      i.request = some (p, kind, tag, pl) → kind.toNat ∈ controllingCodes →
      requestOf p kind tag pl = i → s.Taking p → s.controlling ≠ p →
      passesLength kind.toNat pl = true →
      Answers i s p kind.toNat tag .notControlling [] (hear p s))

/-- On a listening port, LOADING included: IDENTIFY is answered OK with vendor 0x0A53, part 0x0E60,
revision 2 and the counts 60, 4, 16, 4, 8, and changes no state but the silence its frame
restarts; STATUS is answered OK with role, link flags, change list length, note length and
overrun, settings state, budget flags and the peer's silence as they stand, and the link flags
are then cleared; nothing else changes. (R162, R163) -/
def Obligations.IdentifyAndStatus : Prop :=
  ∀ (p : Port) (tag : Byte) (s : State), s.Listening p →
    Answers (.identify p tag []) s p 0x01 tag .ok [0x53, 0x0A, 0x60, 0x0E, 2, 60, 4, 16, 4, 8]
      (hear p s)
    ∧ Answers (.status p tag []) s p 0x02 tag .ok
      ([byte (if s.controlling = p then 1 else 0),
        byte ((if (s.port p).flags.check then 1 else 0) + (if (s.port p).flags.gap then 2 else 0)
          + (if (s.port p).flags.brk then 4 else 0) + (if (s.port p).flags.overrun then 8 else 0)),
        byte (s.port p).changes.length, byte (s.port p).note.length,
        byte (if (s.port p).noteOverrun then 1 else 0),
        byte (match s.store with
          | .loading _ => 0 | .ready => 1 | .defaults => 2 | .saving _ _ => 3),
        byte ((if s.overBudget then 1 else 0) + (if s.redundancyLost then 2 else 0))]
        ++ le16 (min ((s.port p.peer).silenceMs / 1000) 65535))
      { s with ports := s.ports.set p { s.port p with
          receiver := .hunting, silenceMs := 0
          flags := { check := false, gap := false, brk := false, overrun := false } } }

/-- READ CHANGES is answered OK with the number of entries left, the number returned, and for each of
the first up to 8 entries its kind, index, summary length and summary as it stands; these entries
leave the requester's list, and its attention output stays asserted exactly while entries are
left. The summaries are, byte by byte, those of 11.4: bay, supply, zone, enclosure, plan (with
the copy of the notified step's result, log 31) and note; and the full record of BAY QUERY is the
bay's summary followed by its fields of 11.4 (the age of an absent temperature is open, log 9).
(9.4 Change lists and attention, 11.4 Bay, supply, zone, enclosure, plan and note summaries, log
9, log 31) -/
def Obligations.ReadChangesTakesEight : Prop :=
  (∀ (p : Port) (tag : Byte) (s : State), s.Taking p →
      Answers (.readChanges p tag []) s p 0x03 tag .ok
        (byte ((s.port p).changes.length - 8) :: byte (min 8 (s.port p).changes.length) ::
          ((s.port p).changes.take 8).flatMap fun o =>
            [byte (match o with
              | .bay _ => 0 | .supply _ => 1 | .zone _ => 2 | .enclosure => 3 | .plan => 4 | .note => 5),
             byte (match o with
              | .bay b => b.val | .supply i => i.val | .zone z => z.val | _ => 0),
             byte (match o with
              | .bay _ => 10 | .supply _ => 4 | .zone _ => 5 | .enclosure => 4 | .plan => 5 | .note => 2)]
            ++ s.summary p o)
        { s with ports := s.ports.set p { s.port p with
            receiver := .hunting, silenceMs := 0, changes := (s.port p).changes.drop 8
            attention := decide (8 < (s.port p).changes.length) } })
  ∧ ∀ (p : Port) (b : BayId) (i : SupplyId) (z : ZoneId) (s : State),
    let bit := fun (c : Bool) (n : Nat) => if c then n else 0
    let opt := fun x : Option Nat => match x with | none => (0xFF : Byte) | some n => byte n
    let temp := fun x : Option Int => match x with
      | none => BitVec.ofInt 8 (-128) | some t => BitVec.ofInt 8 t
    let set := fun x : IndSet => byte (bit x.locate 1 + bit x.failed 2 + bit x.predicted 4
      + bit x.rebuild 8 + bit x.hotspare 16)
    let port := fun x : Option Port => match x with | none => (0 : Byte) | some .a => 1 | some .b => 2
    let y := s.bay b
    let c := s.bayCfg b
    let u := s.supplies.get i
    let v := s.settings.supplies.get i
    let w := s.zone z
    let fan := fun k : Fin 4 => [FanState.absent, .running, .failed].idxOf (s.fans.get (fanOf z k)).state
    s.summary p (.bay b) =
      [byte b.val,
       byte ([BayState.empty, .settling, .off, .queued, .starting, .ready, .backoff, .stopping,
         .removable, .fault].idxOf y.state),
       port y.owner, opt (y.code.map (·.val)), byte y.profile.val, byte c.level.val, byte c.zone.val,
       byte (bit y.removalIntended 1 + bit y.wasPowered 2 + bit y.requeue 4 + bit y.attention 8
         + bit c.sheddable 16 + bit c.buttonEnabled 32 + bit y.override 64),
       byte ([LastEvent.none, .inserted, .removed, .removedLive, .queued, .admitted, .ready, .tripped,
         .faulted, .stopped, .removable, .windowExpired, .cancelled, .shed, .collapse,
         .button].idxOf y.lastEvent),
       set { locate := y.indications.a.locate || y.indications.b.locate
             failed := y.indications.a.failed || y.indications.b.failed
             predicted := y.indications.a.predicted || y.indications.b.predicted
             rebuild := y.indications.a.rebuild || y.indications.b.rebuild
             hotspare := y.indications.a.hotspare || y.indications.b.hotspare }]
    ∧ s.bayRecord b = s.summary p (.bay b) ++
      [opt (y.origin.map ([Origin.request, .insertion, .restart, .plan, .retry, .shed, .restore].idxOf ·)),
       opt (y.fault.map ([FaultCause.startTrip, .runTrip].idxOf ·)), byte y.attempts,
       byte (bit y.startMark 1), temp (y.temp.map (·.value))] ++
      (match y.temp with
        | none => le16 Config.absentAge.toNat
        | some d => le16 (min (d.ageMs / 1000) 65535)) ++
      [opt (s.queue.findIdx? fun e => e.bay = b),
       opt ((s.queue.find? fun e => e.bay = b).map (·.bypass)),
       set y.indications.a, set y.indications.b]
    ∧ s.summary p (.supply i) =
      byte (bit v.installed 1) :: le16 v.capacity ++ [byte (bit u.good 1)]
    ∧ s.summary p (.zone z) =
      [byte (bit w.hold 1 + bit w.overheat 2 + bit w.blind 4 + bit w.degraded 8),
       byte (fan 0 + 4 * fan 1 + 16 * fan 2 + 64 * fan 3), temp w.temp, byte w.applied,
       byte w.reservation]
    ∧ s.summary p .enclosure =
      [byte (match s.store with | .loading _ => 0 | .ready => 1 | .defaults => 2 | .saving _ _ => 3),
       byte ([SaveResult.none, .ok, .failed].idxOf s.saveResult),
       byte (bit s.overBudget 1 + bit s.redundancyLost 2 + bit s.collapse 4 + bit s.lightTest.isSome 8),
       port (some s.controlling)]
    ∧ s.summary p .plan =
      [byte ([EngineState.idle, .running, .paused, .aborting, .done].idxOf s.plan.engine),
       opt (s.plan.outcome.map ([PlanOutcome.complete, .aborted].idxOf ·)),
       opt (s.plan.current.map (·.val)), opt (s.plan.notified.map (·.1.val)),
       opt (s.plan.notified.map fun q =>
         [StepResult.pending, .done, .partly, .skipped].idxOf q.2)]
    ∧ s.summary p .note = [byte (s.port p).note.length, byte (bit (s.port p).noteOverrun 1)]

/-- On a port that takes requests: each query whose operand is in range is answered OK with its own
report, and one whose operand is out of range BAD_VALUE with an empty payload; beyond the port's
silence nothing changes. A BAY QUERY of form SUMMARY gives a count of bays and their 10-byte
summaries, of form FULL the record of the first bay; a form other than the two is BAD_VALUE. (The
reports hold free values where the manual leaves a byte open: logs 8, 9, 10 and 13.) What the
reports hold stands in ReadChangesTakesEight and QueryPayloads. (11.5 Other reply payloads, 1.9
Reading bays, 2.9 Reading the queue, 3.8 Reading the Ledger) -/
def Obligations.QueriesOnlyReport : Prop :=
  ∀ (p : Port) (tag x y z : Byte) (s : State), s.Taking p →
    (∀ b : BayId, x.toNat = b.val →
      Answers (.bayQuery p tag [x, y, 0]) s p 0x04 tag .ok
        (byte (min (max 1 (min 20 y.toNat)) (60 - x.toNat)) ::
          (((List.finRange 60).drop x.toNat).take (max 1 (min 20 y.toNat))).flatMap s.baySummary)
        (hear p s)
      ∧ Answers (.bayQuery p tag [x, y, 1]) s p 0x04 tag .ok (s.bayRecord b) (hear p s)
      ∧ (2 ≤ z.toNat → Answers (.bayQuery p tag [x, y, z]) s p 0x04 tag .badValue [] (hear p s))
      ∧ Answers (.queueQuery p tag [x]) s p 0x05 tag .ok (s.queueReport x.toNat) (hear p s)
      ∧ Answers (.lightQuery p tag [x, y]) s p 0x08 tag .ok (s.lightReport b y.toNat) (hear p s)
      ∧ Answers (.removalQuery p tag [x]) s p 0x09 tag .ok (s.removalReport x.toNat) (hear p s))
    ∧ (60 ≤ x.toNat →
      Answers (.bayQuery p tag [x, y, z]) s p 0x04 tag .badValue [] (hear p s)
      ∧ Answers (.queueQuery p tag [x]) s p 0x05 tag .badValue [] (hear p s)
      ∧ Answers (.lightQuery p tag [x, y]) s p 0x08 tag .badValue [] (hear p s)
      ∧ Answers (.removalQuery p tag [x]) s p 0x09 tag .badValue [] (hear p s))
    ∧ Answers (.ledgerQuery p tag []) s p 0x06 tag .ok s.ledgerReport (hear p s)
    ∧ (∀ v : ZoneId, x.toNat = v.val →
      Answers (.zoneQuery p tag [x]) s p 0x07 tag .ok (s.zoneReport v) (hear p s))
    ∧ (4 ≤ x.toNat → Answers (.zoneQuery p tag [x]) s p 0x07 tag .badValue [] (hear p s))
    ∧ (∀ i : ProfileId, x.toNat = i.val →
      Answers (.readProfile p tag [x]) s p 0x0A tag .ok (s.profileReport i) (hear p s))
    ∧ (8 ≤ x.toNat → Answers (.readProfile p tag [x]) s p 0x0A tag .badValue [] (hear p s))
    ∧ (∀ i : SlotId, x.toNat = i.val →
      Answers (.readStep p tag [x, y]) s p 0x0B tag .ok (s.stepReport i y.toNat) (hear p s))
    ∧ (32 ≤ x.toNat → Answers (.readStep p tag [x, y]) s p 0x0B tag .badValue [] (hear p s))

/-- For a list of bays: they are taken one after another, each against the state the ones before it
left, a number above 59 being refused BAD_VALUE and changing nothing; the reply lists the refused
bays in list order with their codes; the RESULT is OK with none refused, the common code where
all are refused with one code, and PARTIAL else. POWER ON, POWER OFF, PREPARE and CANCEL REMOVAL,
CLEAR FAULT and DECLINE ATTENTION with a list of 1 to 16 bays are taken so, each bay under the
owner-class rights; CLAIM and RELEASE so without them; SET BAY whose values pass the check of 1.5
so under the rights, its reply then giving the five values as the request writes them (where
every bay is refused that is the model's choice, log 12), and refused whole BAD_VALUE otherwise;
SET INDICATION and CLEAR INDICATION so without the rights, and refused whole BAD_VALUE where no
indication is named. (9.3 Judging a request, 11.2 Type codes and request payloads, 8.2 Rights,
1.5 Per-bay settings, 5.3 Host indications, log 12) -/
def Obligations.MultiBayRequests : Prop :=
  (∀ (act : BayId → State → State × Option Result) (x : Byte) (xs bays : List Byte) (s : State),
      takeBays act [] s = (s, [])
      ∧ (60 ≤ x.toNat → takeBays act (x :: xs) s
          = ((takeBays act xs s).1, (x, .badValue) :: (takeBays act xs s).2))
      ∧ (∀ b : BayId, x.toNat = b.val → (act b s).2 = none →
          takeBays act (x :: xs) s = takeBays act xs (act b s).1)
      ∧ (∀ (b : BayId) (c : Result), x.toNat = b.val → (act b s).2 = some c →
          takeBays act (x :: xs) s
            = ((takeBays act xs (act b s).1).1, (x, c) :: (takeBays act xs (act b s).1).2))
      ∧ ∃ refused : List (Byte × Result), (takeBays act bays s).2 = refused
          ∧ (refused.map Prod.fst).Sublist bays
          ∧ (multiBay act bays s).state = (takeBays act bays s).1
          ∧ (multiBay act bays s).payload
              = byte refused.length :: refused.flatMap (fun q => [q.1, byte q.2.code])
          ∧ (refused = [] → (multiBay act bays s).result = .ok)
          ∧ (refused ≠ [] → refused.length < bays.length → (multiBay act bays s).result = .partly)
          ∧ (∀ c, refused ≠ [] → refused.length = bays.length → (∀ q ∈ refused, q.2 = c) →
              (multiBay act bays s).result = c)
          ∧ (refused.length = bays.length → (∃ q ∈ refused, ∃ r ∈ refused, q.2 ≠ r.2) →
              (multiBay act bays s).result = .partly))
  ∧ (∀ (p : Port) (tag : Byte) (bays : List Byte) (s : State), s.Taking p →
      1 ≤ bays.length → bays.length ≤ 16 →
      let pl := byte bays.length :: bays
      let out := fun (code : Nat) (act : BayId → State → State × Option Result) =>
        Host.Outcome.next (φ := Fault) (ρ := Refusal)
          (sendReply p code tag (multiBay act bays (hear p s)))
      exec (.powerOn p tag pl) s = out 0x10 (owned p (powerOnBay .request))
      ∧ exec (.powerOff p tag pl) s = out 0x11 (owned p powerOffBay)
      ∧ exec (.prepareRemoval p tag pl) s = out 0x12 (owned p prepareBay)
      ∧ exec (.cancelRemoval p tag pl) s = out 0x13 (owned p cancelBay)
      ∧ exec (.clearFault p tag pl) s = out 0x14 (owned p clearFaultBay)
      ∧ exec (.declineAttention p tag pl) s = out 0x15 (owned p declineBay)
      ∧ exec (.claim p tag pl) s = out 0x20 (claimBay p)
      ∧ exec (.release p tag pl) s = out 0x21 (releaseBay p))
  ∧ (∀ (p : Port) (tag m pr z l sh be i d0 d1 : Byte) (bays : List Byte) (s : State), s.Taking p →
      1 ≤ bays.length → bays.length ≤ 16 →
      let pl := byte bays.length :: bays
      let h := hear p s
      let has := fun k : Nat => m.toNat.testBit k = true
      let bad := (has 0 ∧ 8 ≤ pr.toNat) ∨ (has 1 ∧ 4 ≤ z.toNat) ∨ (has 3 ∧ 2 ≤ sh.toNat)
        ∨ (has 4 ∧ 2 ≤ be.toNat)
      let w : BayWrite :=
        { profile := if has 0 then profileOf pr else none
          zone := if has 1 then fourOf z else none
          level := if has 2 then some ⟨min l.toNat 7, by omega⟩ else none
          sheddable := if has 3 then some (decide (sh = 1)) else none
          buttonEnabled := if has 4 then some (decide (be = 1)) else none }
      let stored := [if has 0 then pr else 0xFF, if has 1 then z else 0xFF,
        if has 2 then byte (min l.toNat 7) else 0xFF, if has 3 then sh else 0xFF,
        if has 4 then be else 0xFF]
      let named : IndSet :=
        { locate := i.toNat.testBit 0, failed := i.toNat.testBit 1, predicted := i.toNat.testBit 2
          rebuild := i.toNat.testBit 3, hotspare := i.toNat.testBit 4 }
      let set := Instr.setBay p tag (pl ++ [m, pr, z, l, sh, be])
      let mark := Instr.setIndication p tag (pl ++ [i, d0, d1])
      let clear := Instr.clearIndication p tag (pl ++ [i])
      (m.toNat % 32 ≠ 0 → bad → Answers set s p 0x16 tag .badValue [] h)
      ∧ (m.toNat % 32 ≠ 0 → ¬ bad →
          let r := multiBay (owned p (writeBay w)) bays h
          Answers set s p 0x16 tag r.result (r.payload ++ stored) r.state)
      ∧ (i.toNat % 32 = 0 → Answers mark s p 0x30 tag .badValue [] h
          ∧ Answers clear s p 0x31 tag .badValue [] h)
      ∧ (i.toNat % 32 ≠ 0 →
          exec mark s = .next (sendReply p 0x30 tag
            (multiBay (indicateBay p named (d0.toNat + 256 * d1.toNat)) bays h))
          ∧ exec clear s = .next (sendReply p 0x31 tag
            (multiBay (fun b u => (changeBay b (fun y => { y with
              indications := y.indications.set p ((y.indications.get p).minus named)
              locate := if named.locate then y.locate.set p .idle else y.locate }) u, none)) bays h))))

/-- For each of the seven owner-class requests on one bay, SET BAY with any payload that passes its
length and its check of values: where the other port owns the bay, or nobody owns it and the
requester is AUXILIARY, the bay is refused NOT_OWNER and nothing changes; a bay number above 59
is refused BAD_VALUE and nothing changes. (The settings bytes of a SET BAY reply that refuses its
only bay are the model's choice, log 12.) A port may act exactly on the bays it owns and, while
CONTROLLING, on the bays nobody owns. (8.2 Rights, 9.3 Judging a request, log 12) -/
def Obligations.OwnerClassRights : Prop :=
  ∀ (p : Port) (tag m pr z l sh be : Byte) (b : BayId) (x : Byte) (s : State), s.Taking p →
    let has := fun i : Nat => m.toNat.testBit i = true
    let good := m.toNat % 32 ≠ 0 ∧ ¬ ((has 0 ∧ 8 ≤ pr.toNat) ∨ (has 1 ∧ 4 ≤ z.toNat)
      ∨ (has 3 ∧ 2 ≤ sh.toNat) ∨ (has 4 ∧ 2 ≤ be.toNat))
    let five := [if has 0 then pr else 0xFF, if has 1 then z else 0xFF,
      if has 2 then byte (min l.toNat 7) else 0xFF, if has 3 then sh else 0xFF,
      if has 4 then be else 0xFF]
    let refused := fun (k : Byte) (r : Result) =>
      let no := [1, k, byte r.code]
      Answers (.powerOn p tag [1, k]) s p 0x10 tag r no (hear p s)
      ∧ Answers (.powerOff p tag [1, k]) s p 0x11 tag r no (hear p s)
      ∧ Answers (.prepareRemoval p tag [1, k]) s p 0x12 tag r no (hear p s)
      ∧ Answers (.cancelRemoval p tag [1, k]) s p 0x13 tag r no (hear p s)
      ∧ Answers (.clearFault p tag [1, k]) s p 0x14 tag r no (hear p s)
      ∧ Answers (.declineAttention p tag [1, k]) s p 0x15 tag r no (hear p s)
      ∧ (good → Answers (.setBay p tag [1, k, m, pr, z, l, sh, be]) s p 0x16 tag r (no ++ five)
          (hear p s))
    (s.mayAct p b = true ↔ (s.bay b).owner = some p ∨ ((s.bay b).owner = none ∧ s.controlling = p))
    ∧ (((s.bay b).owner = some p.peer ∨ ((s.bay b).owner = none ∧ s.controlling = p.peer)) →
        refused (byte b.val) .notOwner)
    ∧ (60 ≤ x.toNat → refused x .badValue)

/-- Out of reset: presence in an EMPTY bay starts SETTLING with the settle time in force and the
start-up mark exactly before LOADING is first left, and in any other state does not arise and
changes nothing (log 16); its loss while SETTLING gives the EMPTY record, last event and owner
kept, whichever of PRESENCE_LOST and PULL says it (log 17). A settle timer that expires waits
during LOADING, marked as expired (log 29); else code and profile take what the contacts read,
mark and attempts clear, last event is INSERTED, and the bay is OFF, and joins the queue with
origin RESTART if marked under STAGE or INSERTION if unmarked under AUTO. Where settle timers of
lower-numbered bays are due when one expires, theirs are taken first, in ascending bay number,
each in the same way; that the command of the one carries the others with it is the model's form
(log 35). A SETTLE_END of a bay that is not SETTLING, or whose settle timer does not run or has
expired already, changes nothing, and an expiry acts whatever time its timer still shows: the
model's reading (log 3). (1.3 Presence and settling, 1.1 The bay record, log 3, log 16, log 17,
log 29, log 35) -/
def Obligations.PresenceAndSettle : Prop :=
  (∀ (b : BayId) (s : State), s.resetHeld = false →
      ((s.bay b).state = .empty →
        exec (.presenceArrives b) s = .next (changeBay b (fun y => { y with
          state := .settling, startMark := decide (s.store = .loading false)
          timer := .settle (s.settings.scheduler.settle * 100) }) s))
      ∧ ((s.bay b).state ≠ .empty → exec (.presenceArrives b) s = .next s)
      ∧ (∀ c ∈ [Instr.presenceLost b, Instr.pull b],
          ((s.bay b).state = .settling →
            exec c s = .next (changeBay b (fun y => y.emptyRecord y.lastEvent) s))
          ∧ ((s.bay b).state = .empty → exec c s = .next s)))
  ∧ (∀ (b : BayId) (k : Vector ProfileId 60) (n : Nat) (s : State), s.resetHeld = false →
      (s.bay b).state = .settling → (s.bay b).timer = .settle n →
      let one : State → BayId → State := fun t c =>
        let u := changeBay c (fun y => { y with
          state := .off, code := some (k.get c), profile := k.get c, startMark := false, attempts := 0
          lastEvent := .inserted, timer := .idle }) t
        if t.loading then changeBay c (fun y => { y with timer := .settled }) t
        else if (t.bay c).startMark then
          (if t.settings.scheduler.restart = .stage then queued c .restart id u else u)
        else
          (if t.settings.scheduler.insertion = .auto then queued c .insertion id u else u)
      let due := fun (t : State) (c : BayId) =>
        decide (c < b ∧ (t.bay c).state = .settling ∧ (t.bay c).timer = .settle 0)
      exec (.settleEnd b k) s = .next
        (one ((List.finRange 60).foldl (fun t c => if due t c then one t c else t) s) b)
      ∧ ((∀ c : BayId, due s c = false) → exec (.settleEnd b k) s = .next (one s b)))
  ∧ (∀ (b : BayId) (k : Vector ProfileId 60) (s : State), s.resetHeld = false →
      (s.bay b).state ≠ .settling ∨ (∀ n, (s.bay b).timer ≠ .settle n) →
      exec (.settleEnd b k) s = .next s)

/-- Out of reset, presence lost from OFF, BACKOFF, REMOVABLE or FAULT gives the EMPTY record with
last event REMOVED; from QUEUED also the queue entry goes; from STOPPING last event is
REMOVED_LIVE; from STARTING and READY it is REMOVED_LIVE too, the Ledger recomputes and an
admission opportunity follows. The commands PULL and PRESENCE_LOST act alike, by the state found
(log 17). (1.6 Pulling a carrier, 1.1 The bay record) -/
def Obligations.PullOutcomes : Prop :=
  ∀ (b : BayId) (s : State), s.resetHeld = false → ∀ c ∈ [Instr.pull b, Instr.presenceLost b],
    let gone := changeBay b (fun y => y.emptyRecord .removed)
    let live := changeBay b (fun y => y.emptyRecord .removedLive)
    match (s.bay b).state with
    | .off | .backoff | .removable | .fault => exec c s = .next (gone s)
    | .queued => exec c s = .next (gone { s with queue := s.queue.filter fun e => e.bay ≠ b })
    | .stopping => exec c s = .next (live s)
    | .starting | .ready => exec c s = .next (opportunity (recompute (live s)))
    | .empty | .settling => True

/-- A change of bay b writes its record; every other bay, the settings, the queue, the Ledger, zones,
fans, sensors, roles and store stay; if a reportable field of the bay changed, the bay stands in
both change lists and both attention outputs are asserted; a bay outside the pending set leaves
the plan as it is, and one that no longer stays pending is no longer in it. A bay that leaves the
pending set is settled if it is READY, and else raises the lost count by 1, at most to 60 (log
24). Where that empties the set of a RUNNING engine whose WAIT_SETTLED step is in progress, the
step ends DONE with the lost count, at most 8, as its refused count, the set is empty and the
lost count 0, notify copies the result (log 31), and the engine goes on to the next step or to
DONE and COMPLETE. Where no bay of the set of an ABORTING engine is STARTING with origin PLAN any
more, the engine is DONE and ABORTED, the set empty, the lost count 0 and the plan posted. Else
the plan changes no further. A posting puts an object at the end of each change list that lacks
it and asserts both attention outputs. (1.1 The bay record, 9.4 Change lists and attention, 7.3
Running a plan, 7.4 Pausing and aborting, log 24, log 31) -/
def Obligations.ChangeOfABay : Prop :=
  (∀ (o : Obj) (s : State) (p : Port),
      post o s = { s with ports := (post o s).ports }
      ∧ (post o s).port p = { s.port p with
          changes := if o ∈ (s.port p).changes then (s.port p).changes else (s.port p).changes ++ [o]
          attention := true })
  ∧ ∀ (b : BayId) (f : Bay → Bay) (s : State),
    let t := changeBay b f s
    t.bay b = f (s.bay b) ∧ (∀ c : BayId, c ≠ b → t.bay c = s.bay c)
    ∧ t = { s with bays := t.bays, ports := t.ports, plan := t.plan }
    ∧ (b ∉ s.plan.pendingSet → t.plan = s.plan)
    ∧ (s.plan.pendingSet.Nodup → (f (s.bay b)).staysPending = false → b ∉ t.plan.pendingSet)
    ∧ ((f (s.bay b)).staysPending = true → b ∈ s.plan.pendingSet →
        s.plan.engine ≠ .aborting → b ∈ t.plan.pendingSet)
    ∧ (t.report b ≠ s.report b →
        Obj.bay b ∈ t.ports.a.changes ∧ Obj.bay b ∈ t.ports.b.changes
        ∧ t.ports.a.attention = true ∧ t.ports.b.attention = true)
    ∧ (t.report b = s.report b → b ∉ s.plan.pendingSet → t.ports = s.ports)
    ∧ (b ∈ s.plan.pendingSet →
      let y := f (s.bay b)
      let pl := s.plan
      let w := { s with bays := s.bays.set b y }
      let v := if w.report b = s.report b then w else post (.bay b) w
      let left := if y.staysPending then pl else { pl with
        pendingSet := pl.pendingSet.erase b
        lost := if y.state = .ready then pl.lost else min (pl.lost + 1) 60 }
      let settled := pl.engine = .running ∧ pl.inProgress = true ∧ left.pendingSet = []
        ∧ (pl.current.map fun i => (pl.steps.get i).action) = some .waitSettled
      let aborted := pl.engine = .aborting
        ∧ ∀ c ∈ left.pendingSet, ¬ ((w.bay c).state = .starting ∧ (w.bay c).origin = some .plan)
      (settled → ∀ i ∈ pl.current,
        let st := pl.steps.get i
        let ended := { left with
          steps := pl.steps.set i { st with result := .done, refused := min left.lost 8 }
          pendingSet := [], lost := 0, inProgress := false
          notified := if st.notify then some (i, .done) else pl.notified }
        t = if st.last then
            post .plan { v with plan := { ended with engine := .done, outcome := some .complete } }
          else
            let u := { v with plan := { ended with current := some st.next } }
            if st.notify then post .plan u else u)
      ∧ (aborted → t = post .plan { v with plan := { left with
          engine := .done, outcome := some .aborted, pendingSet := [], lost := 0 } })
      ∧ (¬ settled → ¬ aborted → t = { v with plan := left }))

/-- Out of reset: a press of an armed button disarms it. With button enabled and the bay OFF, QUEUED,
READY, FAULT or BACKOFF, it sets attention and last event BUTTON under NOTIFY or on an owned bay;
under DIRECT on an unowned bay it writes BUTTON and performs PREPARE REMOVAL. Else it changes
nothing more; that it disarms the button also with button enabled clear is the model's choice
(log 32). A press of an unarmed button changes nothing, and a release arms it. For one bay the
requester may act on: DECLINE ATTENTION clears its attention request and is refused WRONG_STATE
in EMPTY and SETTLING; CLEAR FAULT takes a FAULT bay to OFF with attempts 0 and no fault cause,
last event and attention kept, and is refused WRONG_STATE in every other state. (1.7 The
attention button, 4.4 The direct button action, 1.8 Faults, log 32) -/
def Obligations.ButtonsAttentionAndFaults : Prop :=
  (∀ (b : BayId) (s : State), s.resetHeld = false →
      let t := { s with bays := s.bays.set b { s.bay b with buttonArmed := false } }
      let taken := (s.bayCfg b).buttonEnabled = true
        ∧ (s.bay b).state ∈ [BayState.off, .queued, .ready, .fault, .backoff]
      let direct := s.settings.removal.action = .direct ∧ (s.bay b).owner = none
      ((s.bay b).buttonArmed = true → taken → ¬ direct →
        exec (.buttonPress b) s = .next
          (changeBay b (fun y => { y with attention := true, lastEvent := .button }) t))
      ∧ ((s.bay b).buttonArmed = true → taken → direct →
        exec (.buttonPress b) s = .next
          (prepareBay b (changeBay b (fun y => { y with lastEvent := .button }) t)).1)
      ∧ ((s.bay b).buttonArmed = true → ¬ taken → exec (.buttonPress b) s = .next t)
      ∧ ((s.bay b).buttonArmed = false → exec (.buttonPress b) s = .next s)
      ∧ exec (.buttonRelease b) s = .next
          { s with bays := s.bays.set b { s.bay b with buttonArmed := true } })
  ∧ (∀ (p : Port) (tag : Byte) (b : BayId) (s : State), s.Taking p → s.mayAct p b = true →
      let x := byte b.val
      ((s.bay b).state ∉ [BayState.empty, .settling] →
        Answers (.declineAttention p tag [1, x]) s p 0x15 tag .ok [0]
          (changeBay b (fun y => { y with attention := false }) (hear p s)))
      ∧ ((s.bay b).state ∈ [BayState.empty, .settling] →
        Answers (.declineAttention p tag [1, x]) s p 0x15 tag .wrongState [1, x, 7] (hear p s))
      ∧ ((s.bay b).state = .fault →
        Answers (.clearFault p tag [1, x]) s p 0x14 tag .ok [0]
          (changeBay b (fun y => { y with state := .off, attempts := 0, fault := none }) (hear p s)))
      ∧ ((s.bay b).state ≠ .fault →
        Answers (.clearFault p tag [1, x]) s p 0x14 tag .wrongState [1, x, 7] (hear p s)))

/-- For every state the seven reports are the fields of 11.5 in order. QUEUE QUERY: settings, counts,
gap, guard and up to 40 entries from the start position with their held markers. LEDGER QUERY:
supplies, budget settings, the six totals, the zones' reservation duties and shares, flags, shed
timer, counts, and the bay the next shed would choose. ZONE QUERY: settings, curve, T, T_h,
boost, duties, share, flags, fans, the whole sensor map, the fresh and stale counts and the
hottest fresh bay. LIGHT QUERY: frame, test, fault light and its five conditions, locate light
and requests, and the composed patterns and locate timers of a run. REMOVAL QUERY: settings,
count and entries. READ PROFILE: block and two counts. READ STEP: the engine and a run of slots.
That fresh and stale are judged by the moment of the query is the model's choice (log 34). Open,
and so free: the rounding of a part of a tick or shed second (log 8), which of several equally
hot bays is named (log 10), the lit byte of the enclosure lights in a light test and of the
locate light in the dark half of SLOW (log 13). (11.5 Other reply payloads, 2.9 Reading the
queue, 3.8 Reading the Ledger, 5.6 Reading the lights, 4.6 Reading removal state, 6.8 Reading a
zone, 7.1 The plan table, 1.4 Profiles, log 8, log 10, log 13, log 34) -/
def Obligations.QueryPayloads : Prop :=
  ∀ s : State,
    let bit := fun (c : Bool) (n : Nat) => if c then n else 0
    let opt := fun x : Option Nat => match x with | none => (0xFF : Byte) | some n => byte n
    let temp := fun x : Option Int => match x with
      | none => BitVec.ofInt 8 (-128) | some t => BitVec.ofInt 8 t
    let count := fun c : BayId → Bool => byte ((List.finRange 60).countP c)
    let run := fun (x : BayId) (n : Nat) => ((List.finRange 60).drop x.val).take (max 1 (min 20 n))
    let wait := fun x : LocateTimer => match x with
      | .idle => le16 0 | .indefinite => le16 65535 | .running n => le16 ((n + 999) / 1000)
    let states := [BayState.empty, .settling, .off, .queued, .starting, .ready, .backoff, .stopping,
      .removable, .fault]
    let share := fun z : ZoneId =>
      let r := (s.zone z).reservation
      (s.zoneCfg z).fanCount * (((s.zoneCfg z).fanDraw * r * r * r + 999999) / 1000000)
    let held := fun b : BayId =>
      let w := s.zone (s.bayCfg b).zone
      w.hold || w.overheat || w.blind
    (∀ n : Nat, n / 100 ≤ ticksLeft n ∧ ticksLeft n * 100 < n + 100
      ∧ n / 1000 ≤ shedSecondsLeft n ∧ shedSecondsLeft n * 1000 < n + 1000)
    ∧ (∀ n : Nat,
      let c := s.settings.scheduler
      s.queueReport n =
        [byte (if c.mode = .strict then 0 else 1), byte c.startCap, byte c.gap, byte c.bypassLimit,
         byte c.settle, byte c.backoff, byte (if c.insertion = .manual then 0 else 1),
         byte (if c.restart = .hold then 0 else 1), byte s.queue.length,
         count fun b => (s.bay b).state = .starting, byte (bit s.gap.isSome 1),
         byte (bit (decide (c.mode = .fill ∧ ∃ e ∈ s.queue, held e.bay = false
           ∧ c.bypassLimit ≤ e.bypass)) 1),
         byte (min 40 (s.queue.length - n))] ++
        ((s.queue.drop n).take 40).flatMap fun e =>
          [byte e.bay.val, byte e.level.val,
           byte ([Origin.request, .insertion, .restart, .plan, .retry, .shed, .restore].idxOf e.origin),
           byte e.bypass, byte (bit (held e.bay) 1)])
    ∧ (let can := fun b : BayId => (s.bay b).state = .ready ∧ (s.bayCfg b).sheddable = true
      let c := s.settings.budget
      ∃ next : Option BayId,
        ((∀ b : BayId, ¬ can b) → next = none)
        ∧ (∀ b : BayId, can b → (∀ d : BayId, can d → d ≠ b → (s.bayCfg d).level < (s.bayCfg b).level
            ∨ ((s.bayCfg d).level = (s.bayCfg b).level ∧ d < b)) → next = some b)
        ∧ s.ledgerReport =
          ((List.finRange 4).flatMap fun i => byte (bit (s.settings.supplies.get i).installed 1) ::
            le16 (s.settings.supplies.get i).capacity ++
            [byte (bit (s.supplies.get i).good 1), byte (bit (s.supplies.get i).qualify.isSome 1)]) ++
          [byte (if c.reserve = .none then 0 else 1), byte c.derate] ++ le16 c.base ++
          [byte c.shedDelay] ++ le32 s.totals.gross ++ le32 s.totals.usable ++ le16 s.totals.fans ++
          le32 s.totals.allowance ++ le32 s.totals.committed ++
          le32 (BitVec.ofInt 32 s.totals.headroom).toNat ++
          ((List.finRange 4).flatMap fun z => byte (s.zone z).reservation :: le16 (share z)) ++
          [byte (bit s.overBudget 1 + bit s.redundancyLost 2 + bit s.collapse 4),
           opt (s.shed.map shedSecondsLeft), count fun b => (s.bay b).state = .starting,
           count fun b => (s.bay b).state = .ready, count fun b => decide (can b),
           opt (next.map (·.val))])
    ∧ (∀ z : ZoneId,
      let c := s.zoneCfg z
      let x := s.zone z
      let warm := fun (b : BayId) (v : Int) (fresh : Prop) =>
        (s.bayCfg b).zone = z ∧ (s.bay b).state ∈ [BayState.starting, .ready]
        ∧ ∃ d ∈ (s.bay b).temp, d.value = v ∧ (min (d.ageMs / 1000) 65535 ≤ s.settings.staleness ↔ fresh)
      ∃ (fresh stale : BayId → Bool) (hot : Option (BayId × Int)),
        (∀ b : BayId, (fresh b = true ↔ ∃ v, warm b v True) ∧ (stale b = true ↔ ∃ v, warm b v False))
        ∧ (hot = none ↔ ∀ b : BayId, fresh b = false)
        ∧ (∀ (b : BayId) (v : Int), hot = some (b, v) →
          warm b v True ∧ ∀ (d : BayId) (w : Int), warm d w True → w ≤ v)
        ∧ s.zoneReport z =
          [byte c.floor, byte c.ceiling, byte c.failsafe, byte c.hysteresis, byte c.slewUp,
           byte c.slewDown, temp (some c.hold), temp (some c.critical), byte c.fanCount] ++
          le16 c.fanDraw ++ le16 c.stallSpeed ++ [byte c.curve.length] ++
          ((c.curve.flatMap fun q : Int × Nat => [temp (some q.1), byte q.2]) ++ List.replicate 12 0).take 12 ++
          [temp x.temp, temp x.curveInput, byte x.boost, byte x.demand, byte x.applied,
           byte x.ceiling, byte x.reservation] ++ le16 (share z) ++
          [byte (bit x.hold 1 + bit x.overheat 2 + bit x.blind 4 + bit x.degraded 8
            + bit (x.hold || x.overheat || x.blind) 16)] ++
          ((List.finRange 4).flatMap fun i =>
            let f := s.fans.get (fanOf z i)
            byte ([FanState.absent, .running, .failed].idxOf f.state) :: le16 f.speed.toNat ++
              [byte f.stallRun, byte f.recoveryRun]) ++
          ((List.finRange 8).flatMap fun i =>
            [match s.settings.sensorMap.get i with | none => 0xFF | some w => byte w.val,
             temp (s.sensors.get i).reading, byte (bit (s.sensors.get i).valid 1)]) ++
          [count fresh, count stale, opt (hot.map (·.1.val)), temp (hot.map (·.2))] ++
          le16 s.settings.staleness)
    ∧ (∀ (b : BayId) (n : Nat),
      let conds := [decide (∃ d : BayId, (s.bay d).state = .fault),
        decide (∃ f : FanId, (s.fans.get f).state = .failed),
        decide (∃ z : ZoneId, (s.zone z).overheat = true ∨ (s.zone z).blind = true),
        decide (∃ i : SupplyId, (s.settings.supplies.get i).installed = true
          ∧ (s.supplies.get i).good = false), s.overBudget]
      let set := fun x : LocateTimer => decide (x ≠ .idle)
      let asked := set s.ports.a.locate || set s.ports.b.locate
      ∃ fault locate : Bool,
        (conds.any id = true → fault = true)
        ∧ (conds.any id = false → s.lightTest = none → fault = false)
        ∧ (asked = false → s.lightTest = none → locate = false)
        ∧ (asked = true → s.frame % 1000 < 500 → locate = true)
        ∧ s.lightReport b n =
          le16 s.frame ++ [byte (match s.lightTest with | none => 0 | some t => ticksLeft t),
            byte (bit fault 1),
            byte (bit (conds.getD 0 false) 1 + bit (conds.getD 1 false) 2 + bit (conds.getD 2 false) 4
              + bit (conds.getD 3 false) 8 + bit (conds.getD 4 false) 16), byte (bit locate 1)] ++
          wait s.ports.a.locate ++ wait s.ports.b.locate ++ byte (run b n).length ::
          (run b n).flatMap fun d =>
            let y := s.bay d
            let either := fun f : IndSet → Bool => f y.indications.a || f y.indications.b
            [byte d.val,
             byte (match y.state with
              | .queued => 4 | .starting => 2 | .ready => 5 | .backoff => 3 | .stopping => 3 | _ => 0),
             byte (if y.state = .fault ∨ either IndSet.failed = true then 1 else if y.attention then 3
              else if either IndSet.predicted then 2 else if either IndSet.rebuild then 4 else 0),
             byte (if y.state = .removable then 1 else if either IndSet.locate then 2
              else if either IndSet.hotspare then 4 else 0)] ++ wait y.locate.a ++ wait y.locate.b)
    ∧ (∀ n : Nat,
      let c := s.settings.removal
      let some' := (List.finRange 60).filter fun b => (s.bay b).state = .removable
        ∨ ((s.bay b).state = .stopping ∧ (s.bay b).removalIntended = true)
      s.removalReport n = le16 c.window ++
        [byte (if c.expiry = .remainOff then 0 else 1), byte (if c.action = .notify then 0 else 1),
         byte some'.length, byte (min 40 (some'.length - n))] ++
        ((some'.drop n).take 40).flatMap fun b =>
          [byte b.val, byte (states.idxOf (s.bay b).state), byte (bit (s.bay b).wasPowered 1)] ++
          match (s.bay b).timer with
          | .removal t => le16 ((t + 999) / 1000) | .stop t => le16 (ticksLeft t) | _ => le16 65535)
    ∧ (∀ i : ProfileId,
      let c := s.settings.profiles.get i
      s.profileReport i = le16 c.surge ++ le16 c.surgeTime ++ le16 c.run ++
        [byte c.boost, byte c.allowance] ++ le16 c.stopTime ++
        [count fun b => (s.bay b).profile = i,
         count fun b => (s.bay b).profile = i ∧ (s.bay b).state ∈ [BayState.starting, .ready]])
    ∧ (∀ (i : SlotId) (n : Nat),
      let pl := s.plan
      let slots := ((List.finRange 32).drop i.val).take (max 1 (min 8 n))
      s.stepReport i n =
        [byte ([EngineState.idle, .running, .paused, .aborting, .done].idxOf pl.engine),
         opt (pl.outcome.map ([PlanOutcome.complete, .aborted].idxOf ·)),
         match pl.owner with | none => 0 | some .a => 1 | some .b => 2,
         opt (pl.current.map (·.val)), byte pl.pendingSet.length, byte pl.lost] ++
        le16 (match pl.wait with | .idle => 0 | .running t => ticksLeft t | .frozen t => ticksLeft t) ++
        [byte slots.length] ++ slots.flatMap fun k =>
          let st := pl.steps.get k
          [byte k.val,
           byte ([StepAction.none, .on, .off, .remove, .waitTime, .waitSettled].idxOf st.action),
           byte (bit st.notify 1 + bit st.last 2), byte st.next.val] ++ le16 (st.wait.getD 0) ++
          [byte ([StepResult.pending, .done, .partly, .skipped].idxOf st.result), byte st.refused,
           byte st.bays.length] ++ (st.bays ++ List.replicate 8 0xFF).take 8)

/-- For one bay the requester may act on and a mask with a named bit: an unknown profile, zone,
sheddable or button value refuses the whole request BAD_VALUE; a profile on a bay that is not
OFF, QUEUED, FAULT or REMOVABLE is refused WRONG_STATE; else the present settings are stored (a
level above 7 as 7), a profile sets the override, button enabled no clears attention, the bay is
posted if it changed, and a QUEUED bay of changed level moves to the end of its new group with
bypass count 0, an admission opportunity. The reply gives the values as stored; where its only
bay is refused and nothing is stored, that it shows the values as the request writes them is the
model's choice (log 12). (1.5 Per-bay settings, 11.2 Type codes and request payloads, log 12) -/
def Obligations.SetBayWrites : Prop :=
  ∀ (p : Port) (tag m pr z l sh be : Byte) (b : BayId) (s : State), s.Taking p →
    s.mayAct p b = true → m.toNat % 32 ≠ 0 →
    let has := fun i : Nat => m.toNat.testBit i = true
    let c := Instr.setBay p tag [1, byte b.val, m, pr, z, l, sh, be]
    let bad := (has 0 ∧ 8 ≤ pr.toNat) ∨ (has 1 ∧ 4 ≤ z.toNat) ∨ (has 3 ∧ 2 ≤ sh.toNat)
      ∨ (has 4 ∧ 2 ≤ be.toNat)
    let wrong := has 0 ∧ (s.bay b).state ∉ [BayState.off, .queued, .fault, .removable]
    let old := s.bayCfg b
    let new : BaySettings :=
      { zone := if has 1 then (fourOf z).getD 0 else old.zone
        level := if has 2 then ⟨min l.toNat 7, by omega⟩ else old.level
        sheddable := if has 3 then decide (sh = 1) else old.sheddable
        buttonEnabled := if has 4 then decide (be = 1) else old.buttonEnabled }
    let stored := [if has 0 then pr else 0xFF, if has 1 then z else 0xFF,
      if has 2 then byte new.level.val else 0xFF, if has 3 then sh else 0xFF,
      if has 4 then be else 0xFF]
    let y := s.bay b
    let t := { hear p s with
      settings := { s.settings with bays := s.settings.bays.set b new }
      bays := s.bays.set b { y with
        profile := if has 0 then (profileOf pr).getD 0 else y.profile
        override := decide (has 0) || y.override
        attention := y.attention && (!decide (has 4) || decide (be = 1)) } }
    let u := if t.report b = s.report b then t else post (.bay b) t
    (bad → Answers c s p 0x16 tag .badValue [] (hear p s))
    ∧ (¬ bad → wrong →
        Answers c s p 0x16 tag .wrongState ([1, byte b.val, 7] ++ stored) (hear p s))
    ∧ (¬ bad → ¬ wrong → ((s.bay b).state ≠ .queued ∨ new.level = old.level) →
        Answers c s p 0x16 tag .ok (0 :: stored) u)
    ∧ (¬ bad → ¬ wrong → (s.bay b).state = .queued → new.level ≠ old.level →
        ∀ e ∈ s.queue, e.bay = b → (s.queue.map (·.bay)).Nodup →
        Answers c s p 0x16 tag .ok (0 :: stored) (opportunity { u with
          queue := insertEnd { e with level := new.level, bypass := 0 }
            (s.queue.filter fun e => e.bay ≠ b) }))

/-- From the CONTROLLING port: an index above 7 is refused BAD_VALUE; a profile that a STARTING or
READY bay uses is refused WRONG_STATE and left as it is; else all six values are stored, clamped
to their ranges and the run draw to the surge draw, and the reply gives them as stored. Nothing
else changes. (1.4 Profiles, 11.2 Type codes and request payloads) -/
def Obligations.SetProfileReplaces : Prop :=
  ∀ (p : Port) (tag x u0 u1 t0 t1 r0 r1 h a w0 w1 : Byte) (s : State), s.Commanding p →
    let c := Instr.setProfile p tag [x, u0, u1, t0, t1, r0, r1, h, a, w0, w1]
    let surge := min 2000 (u0.toNat + 256 * u1.toNat)
    let new : Profile :=
      { surge := surge, surgeTime := max 1 (min 300 (t0.toNat + 256 * t1.toNat))
        run := min surge (r0.toNat + 256 * r1.toNat), boost := min 30 h.toNat
        allowance := min 3 a.toNat, stopTime := min 300 (w0.toNat + 256 * w1.toNat) }
    (8 ≤ x.toNat → Answers c s p 0x50 tag .badValue [] (hear p s))
    ∧ ∀ i : ProfileId, x.toNat = i.val →
      ((∃ b : BayId, (s.bay b).profile = i ∧ (s.bay b).state ∈ [BayState.starting, .ready]) →
        Answers c s p 0x50 tag .wrongState [] (hear p s))
      ∧ ((∀ b : BayId, (s.bay b).profile = i → (s.bay b).state ∉ [BayState.starting, .ready]) →
        Answers c s p 0x50 tag .ok
          (le16 new.surge ++ le16 new.surgeTime ++ le16 new.run ++ [byte new.boost, byte new.allowance]
            ++ le16 new.stopTime)
          { hear p s with settings := { s.settings with profiles := s.settings.profiles.set i new } })

/-- For one bay the requester may act on: OFF joins the queue with origin REQUEST and last event
QUEUED; QUEUED, STARTING, READY and BACKOFF are accepted without change; STOPPING without removal
intended is accepted, and where requeue on stop was clear it is set with origin REQUEST; STOPPING
with removal intended, REMOVABLE, FAULT, EMPTY and SETTLING are refused WRONG_STATE. POWER OFF:
QUEUED and BACKOFF become OFF with no origin, attempts 0 and last event STOPPED, the queue entry
removed; STARTING and READY enter STOPPING with the switch open, no temperature, attempts 0, no
origin and the profile's stop time, the Ledger recomputes and an opportunity follows; STOPPING
loses requeue on stop and origin; OFF, REMOVABLE and FAULT are accepted without change; EMPTY and
SETTLING are refused WRONG_STATE. (2.3 Power requests, 2.8 Stop windows) -/
def Obligations.PowerRequests : Prop :=
  (∀ (p : Port) (tag : Byte) (b : BayId) (s : State), s.Taking p → s.mayAct p b = true →
      let c := Instr.powerOn p tag [1, byte b.val]
      let accepted := Answers c s p 0x10 tag .ok [0]
      let refused := Answers c s p 0x10 tag .wrongState [1, byte b.val, 7] (hear p s)
      match (s.bay b).state with
      | .off => accepted (queued b .request (fun y => { y with lastEvent := .queued }) (hear p s))
      | .queued | .starting | .ready | .backoff => accepted (hear p s)
      | .stopping =>
        ((s.bay b).removalIntended = true → refused)
        ∧ ((s.bay b).removalIntended = false → (s.bay b).requeue = true → accepted (hear p s))
        ∧ ((s.bay b).removalIntended = false → (s.bay b).requeue = false → accepted
            (changeBay b (fun y => { y with requeue := true, origin := some .request }) (hear p s)))
      | .removable | .fault | .empty | .settling => refused)
  ∧ (∀ (p : Port) (tag : Byte) (b : BayId) (s : State), s.Taking p → s.mayAct p b = true →
      let accepted := Answers (.powerOff p tag [1, byte b.val]) s p 0x11 tag .ok [0]
      let h := hear p s
      let off := fun y : Bay => { y with
        state := .off, origin := none, attempts := 0, lastEvent := .stopped, timer := .idle }
      match (s.bay b).state with
      | .queued => accepted (changeBay b off { h with queue := s.queue.filter fun e => e.bay ≠ b })
      | .backoff => accepted (changeBay b off h)
      | .starting | .ready => accepted (opportunity (recompute (changeBay b (fun y => { y with
          state := .stopping, switch := false, temp := none, attempts := 0, origin := none
          requeue := false, timer := .stop ((s.profile b).stopTime * 100) }) h)))
      | .stopping => accepted (changeBay b (fun y => { y with requeue := false, origin := none }) h)
      | .off | .removable | .fault => accepted h
      | .empty | .settling =>
        Answers (.powerOff p tag [1, byte b.val]) s p 0x11 tag .wrongState [1, byte b.val, 7] h)

/-- From the CONTROLLING port with a setting present: an unknown mode or policy refuses the whole
request BAD_VALUE; else the present settings are stored, numbers clamped, the reply gives all
eight, and an admission opportunity follows exactly where mode, start cap or bypass limit
changed. Nothing is posted, and nothing else changes. From the CONTROLLING port with a setting
present: SET REMOVAL refuses an unknown policy or action BAD_VALUE, else stores, a window of 0 as
none and any other clamped to 10-3600 s; SET PORT SETTINGS refuses a preferred controller other
than A or B BAD_VALUE, else stores, the silence limit clamped to 2-60 s. The reply gives the
group as stored; no running window, role or list changes. (2.2 Scheduler settings, 4.1 Removal
settings, 8.1 Port Controller state, 11.2 Type codes and request payloads) -/
def Obligations.SchedulerRemovalAndPortSettings : Prop :=
  (∀ (p : Port) (tag m mo sc ga bl se ba ins re : Byte) (s : State), s.Commanding p → m ≠ 0 →
      let has := fun i : Nat => m.toNat.testBit i = true
      let c := Instr.setScheduler p tag [m, mo, sc, ga, bl, se, ba, ins, re]
      let old := s.settings.scheduler
      let new : SchedulerSettings :=
        { mode := if has 0 then (if mo = 0 then .strict else .fill) else old.mode
          startCap := if has 1 then max 1 (min 16 sc.toNat) else old.startCap
          gap := if has 2 then min 100 ga.toNat else old.gap
          bypassLimit := if has 3 then max 1 (min 32 bl.toNat) else old.bypassLimit
          settle := if has 4 then max 2 (min 50 se.toNat) else old.settle
          backoff := if has 5 then max 5 (min 100 ba.toNat) else old.backoff
          insertion := if has 6 then (if ins = 0 then .manual else .auto) else old.insertion
          restart := if has 7 then (if re = 0 then .hold else .stage) else old.restart }
      let t := { hear p s with settings := { s.settings with scheduler := new } }
      let bad := (has 0 ∧ 2 ≤ mo.toNat) ∨ (has 6 ∧ 2 ≤ ins.toNat) ∨ (has 7 ∧ 2 ≤ re.toNat)
      (bad → Answers c s p 0x51 tag .badValue [] (hear p s))
      ∧ (¬ bad → Answers c s p 0x51 tag .ok
          [byte (if new.mode = .strict then 0 else 1), byte new.startCap, byte new.gap,
           byte new.bypassLimit, byte new.settle, byte new.backoff,
           byte (if new.insertion = .manual then 0 else 1), byte (if new.restart = .hold then 0 else 1)]
          (if new.mode = old.mode ∧ new.startCap = old.startCap ∧ new.bypassLimit = old.bypassLimit
           then t else opportunity t)))
  ∧ (∀ (p : Port) (tag m w0 w1 x y : Byte) (s : State), s.Commanding p →
      let has := fun i : Nat => m.toNat.testBit i = true
      let h := hear p s
      (m.toNat % 8 ≠ 0 →
        let c := Instr.setRemoval p tag [m, w0, w1, x, y]
        let old := s.settings.removal
        let w := w0.toNat + 256 * w1.toNat
        let new : RemovalSettings :=
          { window := if has 0 then (if w = 0 then 0 else max 10 (min 3600 w)) else old.window
            expiry := if has 1 then (if x = 0 then .remainOff else .restore) else old.expiry
            action := if has 2 then (if y = 0 then .notify else .direct) else old.action }
        let bad := (has 1 ∧ 2 ≤ x.toNat) ∨ (has 2 ∧ 2 ≤ y.toNat)
        (bad → Answers c s p 0x54 tag .badValue [] h)
        ∧ (¬ bad → Answers c s p 0x54 tag .ok
            (le16 new.window ++ [byte (if new.expiry = .remainOff then 0 else 1),
              byte (if new.action = .notify then 0 else 1)])
            { h with settings := { s.settings with removal := new } }))
      ∧ (m.toNat % 4 ≠ 0 →
        let c := Instr.setPortSettings p tag [m, x, y]
        let old := s.settings.ports
        let new : PortSettings :=
          { preferred := if has 0 then (if x = 1 then .a else .b) else old.preferred
            silenceLimit := if has 1 then max 2 (min 60 y.toNat) else old.silenceLimit }
        let bad := has 0 ∧ x ≠ 1 ∧ x ≠ 2
        (bad → Answers c s p 0x26 tag .badValue [] h)
        ∧ (¬ bad → Answers c s p 0x26 tag .ok
            [byte (if new.preferred = .a then 1 else 2), byte new.silenceLimit]
            { h with settings := { s.settings with ports := new } })))

/-- For a chain of well-formed steps and the requester in the place of the owner: a bay of a step is
refused where the other port owns it, or where its state makes an ON step refuse it (STOPPING
with removal intended, REMOVABLE, FAULT, EMPTY, SETTLING) or an OFF or REMOVE step (EMPTY,
SETTLING). A bay is on at the end where the last step of the chain that names it without refusing
it is an ON step, off where that is an OFF or REMOVE step, and else as it stands: on in READY,
STARTING and QUEUED. The report gives the sum of the run draw of the bays that are on, A, FITS or
EXCEEDS, the first ON step that would queue or requeue a bay whose surge draw exceeds A, the
number of steps, and the number of refusals (one byte; above 255 it is open, log 11). (7.5
Checking a plan, 11.5 Other reply payloads, log 11) -/
def Obligations.CheckPlanProjection : Prop :=
  ∀ (p : Port) (chain : List SlotId) (s : State),
    (∀ i ∈ chain, (s.plan.steps.get i).wellFormed = true) →
    let no := fun (a : StepAction) (b : BayId) => (s.bay b).owner = some p.peer
      ∨ (s.bay b).state ∈ [BayState.empty, .settling]
      ∨ (a = .on ∧ ((s.bay b).state ∈ [BayState.removable, .fault]
          ∨ ((s.bay b).state = .stopping ∧ (s.bay b).removalIntended = true)))
    let named : List (StepAction × BayId) := chain.flatMap fun i =>
      (s.plan.steps.get i).bays.filterMap fun x => (bayOf x).map fun b => ((s.plan.steps.get i).action, b)
    let on : BayId → Bool := fun b =>
      match named.reverse.find? fun q => decide (q.2 = b ∧ ¬ no q.1 q.2) with
      | none => decide ((s.bay b).state ∈ [BayState.ready, .starting, .queued])
      | some q => decide (q.1 = .on)
    let load : Nat :=
      ((List.finRange 60).map fun b : BayId => bif on b then (s.profile b).run else 0).sum
    let never := chain.find? fun i => decide ((s.plan.steps.get i).action = .on
      ∧ ∃ b : BayId, byte b.val ∈ (s.plan.steps.get i).bays ∧ ¬ no .on b
        ∧ ((s.bay b).state = .off ∨ ((s.bay b).state = .stopping ∧ (s.bay b).requeue = false))
        ∧ s.totals.allowance < (s.profile b).surge)
    let refusals := (named.filter fun q => decide (no q.1 q.2)).length
    ∃ last : Byte, checkPlanReport p chain s =
        le32 load ++ le32 s.totals.allowance ++
          [if s.totals.allowance < load then 1 else 0,
           match never with | none => 0xFF | some i => byte i.val, byte chain.length, last]
      ∧ (refusals < 256 → last = byte refusals)

/-- An entry joins immediately before the first entry of greater level, or last if there is none;
with origin SHED it joins immediately before the first entry of equal or greater level. The other
entries keep their order, and a queue that ascends by level stays so. Out of reset the expiry of
a running stagger gap timer ends it and takes an admission opportunity; with none running it
changes nothing. An opportunity changes nothing at all while the STARTING bays are not fewer than
the start cap, the gap timer runs, the settings state is LOADING, or the drawer is over budget. A
command that finds its timer idle or its state passed changes nothing, and an expiry acts
whatever time its timer still shows: the model's reading (log 3). (2.4 The spin-up queue, 2.5
Admission, log 3) -/
def Obligations.QueuePlacesAndShutGate : Prop :=
  (∀ (e : Entry) (q : List Entry),
      (e.origin ≠ .shed → insertEntry e q =
        q.takeWhile (fun x => !decide (e.level < x.level)) ++
          e :: q.dropWhile (fun x => !decide (e.level < x.level)))
      ∧ (e.origin = .shed → insertEntry e q =
        q.takeWhile (fun x => !decide (e.level ≤ x.level)) ++
          e :: q.dropWhile (fun x => !decide (e.level ≤ x.level)))
      ∧ (q.Pairwise (fun x y => x.level ≤ y.level) →
          (insertEntry e q).Pairwise (fun x y => x.level ≤ y.level)))
  ∧ (∀ s : State,
      (s.resetHeld = false → s.gap.isSome →
        exec .staggerGapExpiry s = .next (opportunity { s with gap := none }))
      ∧ (s.resetHeld = false → s.gap = none → exec .staggerGapExpiry s = .next s)
      ∧ ((s.settings.scheduler.startCap
              ≤ ((List.finRange 60).filter fun b => (s.bay b).state = .starting).length
            ∨ s.gap.isSome ∨ (∃ r, s.store = .loading r) ∨ s.overBudget = true) →
          opportunity s = s))

/-- At an open gate in STRICT mode: with no eligible entry, or a first eligible entry whose surge
draw exceeds the headroom, nothing changes; else that entry leaves the queue, its bay becomes
STARTING with the switch closed, attempts raised, last event ADMITTED and its surge time on the
timer, the gap timer restarts with the setting (0 is ended), the Ledger recomputes, and the gate
is tried again. At an open gate in FILL mode with no eligible entry at the bypass limit, the
first eligible entry that fits is the candidate, and each eligible entry before it gains one
bypass count, up to 32; with none that fits there is no candidate. With an eligible entry at the
limit, the first such entry is the sole candidate: taken if it fits, and else there is none. No
other count changes. At an open gate in FILL mode a candidate is admitted as in STRICT mode, the
queue left as the candidate gives it, and without one nothing changes. (2.5 Admission) -/
def Obligations.AdmissionByMode : Prop :=
  (∀ s : State, s.gateOpen = true → s.settings.scheduler.mode = .strict →
      let free := fun e : Entry => !(s.zone (s.bayCfg e.bay).zone).holds
      let surge := fun e : Entry => ((s.profile e.bay).surge : Int)
      (s.queue.find? free = none → opportunity s = s)
      ∧ (∀ e, s.queue.find? free = some e → s.totals.headroom < surge e → opportunity s = s)
      ∧ (∀ e, s.queue.find? free = some e → surge e ≤ s.totals.headroom →
          opportunity s =
            let t := changeBay e.bay (fun y => { y with
              state := .starting, lastEvent := .admitted, switch := true, attempts := y.attempts + 1
              timer := .surge ((s.profile e.bay).surgeTime * 100) })
              { s with queue := s.queue.filter fun x => x.bay ≠ e.bay }
            opportunity (recompute { t with
              gap := if s.settings.scheduler.gap = 0 then none
                else some (s.settings.scheduler.gap * 100) })))
  ∧ (∀ s : State, s.settings.scheduler.mode = .fill →
      let free := fun e : Entry => !(s.zone (s.bayCfg e.bay).zone).holds
      let fit := fun e : Entry => decide (((s.profile e.bay).surge : Int) ≤ s.totals.headroom)
      let limit := fun e : Entry => decide (s.settings.scheduler.bypassLimit ≤ e.bypass)
      ((∀ e ∈ s.queue, free e = true → limit e = false) →
        ((∀ e ∈ s.queue, ¬ (free e = true ∧ fit e = true)) → s.candidate = none)
        ∧ (∀ before e after, s.queue = before ++ e :: after → free e = true → fit e = true →
            (∀ x ∈ before, ¬ (free x = true ∧ fit x = true)) →
            s.candidate = some (e, before.map (fun x =>
              if free x then { x with bypass := min (x.bypass + 1) 32 } else x) ++ after)))
      ∧ (∀ before e after, s.queue = before ++ e :: after → free e = true → limit e = true →
          (∀ x ∈ before, ¬ (free x = true ∧ limit x = true)) →
          (fit e = true → s.candidate = some (e, s.queue.filter fun x => x.bay ≠ e.bay))
          ∧ (fit e = false → s.candidate = none)))
  ∧ (∀ s : State, s.gateOpen = true → s.settings.scheduler.mode = .fill →
      (s.candidate = none → opportunity s = s)
      ∧ (∀ (e : Entry) (q : List Entry), s.candidate = some (e, q) →
          opportunity s =
            let t := changeBay e.bay (fun y => { y with
              state := .starting, lastEvent := .admitted, switch := true, attempts := y.attempts + 1
              timer := .surge ((s.profile e.bay).surgeTime * 100) }) { s with queue := q }
            opportunity (recompute { t with
              gap := if s.settings.scheduler.gap = 0 then none
                else some (s.settings.scheduler.gap * 100) })))

/-- From a state whose queue and Ledger are in order, an admission opportunity leaves a committed
draw of at most the bay allowance if it was so before, leaves the allowance as it is, and leaves
as many bays STARTING as before or at most the start cap; it empties no bay's power: a bay that
was STARTING or READY is so still. (2.5 Admission, 3.3 The budget computation) -/
def Obligations.OpportunityKeepsTheBudget : Prop :=
  ∀ s : State, s.QueueOk → s.LedgerOk →
    let t := opportunity s
    let starting := fun u : State =>
      ((List.finRange 60).filter fun b => (u.bay b).state = .starting).length
    (s.totals.committed ≤ s.totals.allowance → t.totals.committed ≤ t.totals.allowance)
    ∧ t.totals.allowance = s.totals.allowance
    ∧ starting t ≤ max (starting s) s.settings.scheduler.startCap
    ∧ (∀ b : BayId, (s.bay b).state ≠ .queued → t.bay b = s.bay b)

/-- Out of reset, whichever of the two trip commands arrives (log 17): in STARTING with attempts at
most the allowance the bay enters BACKOFF, origin kept, last event TRIPPED, the backoff time on
its timer; with more, FAULT with cause START_TRIP; in READY, FAULT with cause RUN_TRIP. The
switch opens, the temperature is dropped, attempts stay, the Ledger recomputes and an opportunity
follows. In any other state nothing changes. Out of reset: a surge window's end makes the bay
READY, attempts 0, no origin, last event READY, with a recompute and an opportunity; a backoff's
end queues it with origin RETRY and last event QUEUED; a stop window's end takes it to REMOVABLE
with removal intended, else back to the queue with the origin it holds if requeue on stop is set,
else to OFF with no origin and last event STOPPED. SURGE_WINDOW_END, BACKOFF_END and
STOP_WINDOW_END of a bay in another state, or with no such timer running (a STARTING bay whose
window RESTART cancelled), change nothing, and an expiry acts whatever time its timer still
shows: the model's reading (log 3). (2.6 Surge windows, 2.7 Trips and backoff, 2.8 Stop windows,
1.8 Faults, log 3, log 17) -/
def Obligations.TripsAndWindowEnds : Prop :=
  (∀ (b : BayId) (s : State), s.resetHeld = false → ∀ c ∈ [Instr.startTrip b, Instr.runTrip b],
      let fault := fun cause : FaultCause => opportunity (recompute (changeBay b (fun y => { y with
        state := .fault, switch := false, temp := none, origin := none, fault := some cause
        lastEvent := .faulted, timer := .idle }) s))
      ((s.bay b).state = .starting → (s.bay b).attempts ≤ (s.profile b).allowance →
        exec c s = .next (opportunity (recompute (changeBay b (fun y => { y with
          state := .backoff, switch := false, temp := none, lastEvent := .tripped
          timer := .backoff (s.settings.scheduler.backoff * 100) }) s))))
      ∧ ((s.bay b).state = .starting → (s.profile b).allowance < (s.bay b).attempts →
        exec c s = .next (fault .startTrip))
      ∧ ((s.bay b).state = .ready → exec c s = .next (fault .runTrip))
      ∧ ((s.bay b).state ∉ [BayState.starting, .ready] → exec c s = .next s))
  ∧ (∀ (b : BayId) (n : Nat) (s : State), s.resetHeld = false →
      ((s.bay b).state = .starting → (s.bay b).timer = .surge n →
        exec (.surgeWindowEnd b) s = .next (opportunity (recompute (changeBay b (fun y => { y with
          state := .ready, attempts := 0, origin := none, lastEvent := .ready, timer := .idle }) s))))
      ∧ ((s.bay b).state = .backoff → (s.bay b).timer = .backoff n →
        exec (.backoffEnd b) s = .next
          (queued b .retry (fun y => { y with lastEvent := .queued }) s))
      ∧ ((s.bay b).state = .stopping → (s.bay b).timer = .stop n →
        ((s.bay b).removalIntended = true →
          exec (.stopWindowEnd b) s = .next (changeBay b (fun y => { y with
            state := .removable, attempts := 0, origin := none, fault := none, attention := false
            lastEvent := .removable, removalIntended := false, requeue := false
            timer := if s.settings.removal.window = 0 then .idle
              else .removal (s.settings.removal.window * 1000) }) s))
        ∧ (∀ o ∈ (s.bay b).origin, (s.bay b).removalIntended = false → (s.bay b).requeue = true →
          exec (.stopWindowEnd b) s = .next
            (queued b o (fun y => { y with lastEvent := .queued, requeue := false }) s))
        ∧ ((s.bay b).removalIntended = false → (s.bay b).requeue = false →
          exec (.stopWindowEnd b) s = .next (changeBay b (fun y => { y with
            state := .off, origin := none, lastEvent := .stopped, timer := .idle }) s))))
  ∧ (∀ (b : BayId) (s : State), s.resetHeld = false →
      ((s.bay b).state ≠ .starting ∨ (∀ n, (s.bay b).timer ≠ .surge n) →
        exec (.surgeWindowEnd b) s = .next s)
      ∧ ((s.bay b).state ≠ .backoff ∨ (∀ n, (s.bay b).timer ≠ .backoff n) →
        exec (.backoffEnd b) s = .next s)
      ∧ ((s.bay b).state ≠ .stopping ∨ (∀ n, (s.bay b).timer ≠ .stop n) →
        exec (.stopWindowEnd b) s = .next s))

/-- After a recompute: G is the sum of the capacities of the good supplies, under ONE with two or
more good less one largest; U is G times the derate over 100 rounded down, at most G, and G where
the derate is 100, with G times derate at most 12,000,000 for settings in range; F is the sum
over zones of fan count times draw times duty cubed over 1,000,000 rounded up; A is U less base
load and F, or 0 where that is negative; K is the surge draw of each STARTING bay and the run
draw of each READY bay; H is A less K. After a recompute the over-budget flag is set exactly
while K exceeds A, the redundancy lost flag exactly under ONE with fewer than two good supplies,
and the shed timer is idle with the flag clear or the delay 0, runs on if it ran, and else starts
with the delay in seconds. A change of either flag puts the enclosure in both change lists;
without one they stay. Bays, queue, gap, settings, supplies, zones and plan stay. (R56, R58) -/
def Obligations.BudgetRecompute : Prop :=
  (∀ s : State,
      let t := (recompute s).totals
      let good := (List.finRange 4).filter fun i =>
        (s.settings.supplies.get i).installed && (s.supplies.get i).good
      let caps := good.map fun i => (s.settings.supplies.get i).capacity
      let c := s.settings.budget
      ((c.reserve = .none ∨ good.length < 2) → t.gross = caps.sum)
      ∧ (∀ m ∈ caps, c.reserve = .one → 2 ≤ good.length → (∀ x ∈ caps, x ≤ m) →
          t.gross = caps.sum - m)
      ∧ t.usable = t.gross * c.derate / 100
      ∧ (c.derate ≤ 100 → t.usable ≤ t.gross) ∧ (c.derate = 100 → t.usable = t.gross)
      ∧ (s.SettingsOk → t.gross * c.derate ≤ 12000000)
      ∧ (∃ one : ZoneId → Nat,
          (∀ z : ZoneId,
            let x := (s.zoneCfg z).fanDraw * (s.zone z).reservation ^ 3
            x ≤ one z * 1000000 ∧ one z * 1000000 < x + 1000000)
          ∧ t.fans = ((List.finRange 4).map fun z => (s.zoneCfg z).fanCount * one z).sum)
      ∧ (c.base + t.fans ≤ t.usable → t.allowance = t.usable - c.base - t.fans)
      ∧ (t.usable < c.base + t.fans → t.allowance = 0)
      ∧ t.committed = ((List.finRange 60).map fun b =>
          if (s.bay b).state = .starting then (s.profile b).surge
          else if (s.bay b).state = .ready then (s.profile b).run else 0).sum
      ∧ t.headroom = (t.allowance : Int) - t.committed)
  ∧ (∀ s : State,
      let t := recompute s
      let good := (List.finRange 4).filter fun i =>
        (s.settings.supplies.get i).installed && (s.supplies.get i).good
      (t.overBudget = true ↔ t.totals.allowance < t.totals.committed)
      ∧ (t.redundancyLost = true ↔ s.settings.budget.reserve = .one ∧ good.length < 2)
      ∧ (t.overBudget = false ∨ s.settings.budget.shedDelay = 0 → t.shed = none)
      ∧ (t.overBudget = true → s.settings.budget.shedDelay ≠ 0 →
          t.shed = some (s.shed.getD (s.settings.budget.shedDelay * 1000)))
      ∧ (t.overBudget ≠ s.overBudget ∨ t.redundancyLost ≠ s.redundancyLost →
          Obj.enclosure ∈ t.ports.a.changes ∧ Obj.enclosure ∈ t.ports.b.changes)
      ∧ (t.overBudget = s.overBudget → t.redundancyLost = s.redundancyLost → t.ports = s.ports)
      ∧ t = { s with
          totals := t.totals, overBudget := t.overBudget, redundancyLost := t.redundancyLost
          shed := t.shed, ports := t.ports })

/-- Out of reset: a fall cancels the qualify timer and fails the supply; a rise of a failed supply's
line starts 2000 ms; the timer's expiry makes the supply good. A change of the good field posts
the supply, and where it is installed the Ledger takes the change up (supplyEvent, said in
CollapseStopsEveryBay); a fall of a failed supply, a rise of a good one, a rise while the timer
runs, and an expiry of an idle timer change nothing more. That a rise of a line that is high
already, of a good supply or while its timer runs, does not arise and changes nothing is the
model's choice (log 16). A command that finds its timer idle or its state passed changes nothing,
and an expiry acts whatever time its timer still shows: the model's reading (log 3). (3.1
Supplies, log 3, log 16) -/
def Obligations.PowerGoodLines : Prop :=
  ∀ (i : SupplyId) (s : State), s.resetHeld = false →
    let x := s.supplies.get i
    let put : Supply → State := fun y => { s with supplies := s.supplies.set i y }
    let changed : Bool → State := fun g =>
      let u := post (.supply i) (put { good := g, qualify := none })
      if (s.settings.supplies.get i).installed then supplyEvent u else u
    (x.good = true → exec (.powerGoodFall i) s = .next (changed false))
    ∧ (x.good = false → exec (.powerGoodFall i) s = .next (put { good := false, qualify := none }))
    ∧ (x.good = false → x.qualify = none →
        exec (.powerGoodRise i) s = .next (put { good := false, qualify := some 2000 }))
    ∧ (x.good = true ∨ x.qualify.isSome → exec (.powerGoodRise i) s = .next s)
    ∧ (x.good = false → x.qualify.isSome →
        exec (.qualifyTimerExpiry i) s = .next (changed true))
    ∧ (x.qualify = none → exec (.qualifyTimerExpiry i) s = .next s)

/-- From a state whose queue and Ledger are in order, out of collapse, when the fall of a power-good
line leaves no good supply: every STARTING or READY bay is STOPPING with its switch open, requeue
on stop set, origin RESTORE, last event COLLAPSE, attempts 0, no temperature and its profile's
stop time running; every other bay but a QUEUED one keeps its record; the collapse flag is set,
the over-budget flag clear and the shed timer idle; the enclosure and every bay stopped stand in
both change lists. For every state: the judgement of a collapse, with a good supply, clears the
flag where it is set and posts the enclosure; with none, it makes these stops where the flag is
clear, sets it and posts the enclosure; else it changes nothing. A supply event is that
judgement, then a recompute, then an admission opportunity exactly where A changed, the over-
budget flag cleared, or the collapse took a bay off power. Another event of the Ledger is a
recompute, then an opportunity exactly where A changed or the flag cleared. (That opportunities
of one event are one is the model's choice, log 14.) (3.6 Supply collapse, 3.3 The budget
computation, 2.5 Admission, log 14) -/
def Obligations.CollapseStopsEveryBay : Prop :=
  (∀ (i : SupplyId) (s t : State), s.resetHeld = false → s.QueueOk → s.LedgerOk →
      s.collapse = false → s.goodSupplies = [i] → exec (.powerGoodFall i) s = .next t →
      (∀ b : BayId,
        ((s.bay b).state ∈ [BayState.starting, .ready] → t.bay b = { s.bay b with
            state := .stopping, switch := false, temp := none, attempts := 0, requeue := true
            origin := some .restore, lastEvent := .collapse
            timer := .stop ((s.profile b).stopTime * 100) })
        ∧ ((s.bay b).state ∉ [BayState.starting, .ready, .queued] → t.bay b = s.bay b))
      ∧ t.collapse = true ∧ t.overBudget = false ∧ t.shed = none ∧ t.totals.allowance = 0
      ∧ ∀ q : Port, (t.port q).attention = true ∧ Obj.enclosure ∈ (t.port q).changes
        ∧ ∀ b : BayId, (s.bay b).state ∈ [BayState.starting, .ready] → Obj.bay b ∈ (t.port q).changes)
  ∧ ∀ s : State,
    let j := judgeCollapse s
    let t := recompute j
    let r := recompute s
    let good := ∃ i : SupplyId,
      (s.settings.supplies.get i).installed = true ∧ (s.supplies.get i).good = true
    let opens := fun u : State =>
      u.totals.allowance ≠ s.totals.allowance ∨ (s.overBudget = true ∧ u.overBudget = false)
    (good → j = if s.collapse then post .enclosure { s with collapse := false } else s)
    ∧ (¬ good → s.collapse = true → j = s)
    ∧ (¬ good → s.collapse = false → ∃ u : State,
      u = { s with bays := u.bays, plan := u.plan, ports := u.ports }
      ∧ (∀ b : BayId, u.bay b =
          if (s.bay b).state ∈ [BayState.starting, .ready] then { s.bay b with
            state := .stopping, switch := false, temp := none, attempts := 0, requeue := true
            origin := some .restore, lastEvent := .collapse
            timer := .stop ((s.profile b).stopTime * 100) }
          else s.bay b)
      ∧ j = post .enclosure { u with collapse := true })
    ∧ (supplyEvent s = if opens t ∨ (¬ good ∧ s.collapse = false
          ∧ ∃ b : BayId, (s.bay b).state ∈ [BayState.starting, .ready]) then opportunity t else t)
    ∧ (ledgerEvent s = if opens r then opportunity r else r)

/-- From the CONTROLLING port with a setting present: SET SUPPLY refuses an index above 3 or an
unknown installed value BAD_VALUE; else it stores (capacity at most 30000), and a change posts
the supply and is taken up by the Ledger (supplyEvent and ledgerEvent are said in
CollapseStopsEveryBay); the reply gives installed, capacity and good. SET BUDGET refuses an
unknown reserve policy BAD_VALUE; else it stores, clamped; a changed shed delay acts on the shed
timer, a change of the other three makes the Ledger recompute; the reply gives all four. (3.1
Supplies, 3.2 Budget settings) -/
def Obligations.SetSupplyAndBudget : Prop :=
  ∀ (p : Port) (tag x m a c0 c1 d e : Byte) (s : State), s.Commanding p →
    let has := fun i : Nat => m.toNat.testBit i = true
    let h := hear p s
    (m.toNat % 4 ≠ 0 →
      let c := Instr.setSupply p tag [x, m, a, c0, c1]
      (4 ≤ x.toNat ∨ (has 0 ∧ 2 ≤ a.toNat) → Answers c s p 0x52 tag .badValue [] h)
      ∧ ∀ i : SupplyId, x.toNat = i.val → ¬ (has 0 ∧ 2 ≤ a.toNat) →
        let old := s.settings.supplies.get i
        let new : SupplySettings :=
          { installed := if has 0 then decide (a = 1) else old.installed
            capacity := if has 1 then min 30000 (c0.toNat + 256 * c1.toNat) else old.capacity }
        let t := { h with settings := { s.settings with supplies := s.settings.supplies.set i new } }
        Answers c s p 0x52 tag .ok
          (byte (if new.installed then 1 else 0) :: le16 new.capacity ++
            [byte (if (s.supplies.get i).good then 1 else 0)])
          (if new = old then t else supplyEvent (post (.supply i) t)))
    ∧ (m.toNat % 16 ≠ 0 →
      let c := Instr.setBudget p tag [m, x, d, c0, c1, e]
      let old := s.settings.budget
      let new : BudgetSettings :=
        { reserve := if has 0 then (if x = 0 then .none else .one) else old.reserve
          derate := if has 1 then max 50 (min 100 d.toNat) else old.derate
          base := if has 2 then min 20000 (c0.toNat + 256 * c1.toNat) else old.base
          shedDelay := if has 3 then min 60 e.toNat else old.shedDelay }
      let t := { h with settings := { s.settings with budget := new } }
      let timer : Option Nat := if s.overBudget = false ∨ new.shedDelay = 0 then none
        else some (s.shed.getD (new.shedDelay * 1000))
      let u := if new.shedDelay = old.shedDelay then t else { t with shed := timer }
      (has 0 ∧ 2 ≤ x.toNat → Answers c s p 0x53 tag .badValue [] h)
      ∧ (¬ (has 0 ∧ 2 ≤ x.toNat) → Answers c s p 0x53 tag .ok
          ([byte (if new.reserve = .none then 0 else 1), byte new.derate] ++ le16 new.base ++
            [byte new.shedDelay])
          (if new.reserve = old.reserve ∧ new.derate = old.derate ∧ new.base = old.base then u
           else ledgerEvent u)))

/-- Out of reset with the drawer over budget and the timer running: the bay that is READY and
sheddable and that no other such bay exceeds in level, or in number at equal level, enters
STOPPING with requeue on stop, origin and last event SHED, the Ledger recomputes, the timer
restarts with the delay if the drawer is still over budget, and an opportunity follows; with no
such bay only the timer restarts. With the timer idle nothing changes. A command that finds its
timer idle or its state passed changes nothing, and an expiry acts whatever time its timer still
shows: the model's reading (log 3). (3.5 Shedding, 2.8 Stop windows) -/
def Obligations.ShedTimerExpiry : Prop :=
  ∀ s : State, s.resetHeld = false →
    let can := fun b : BayId => (s.bay b).state = .ready ∧ (s.bayCfg b).sheddable = true
    let delay := s.settings.budget.shedDelay
    let restart := fun u : State =>
      { u with shed := if u.overBudget = false ∨ delay = 0 then none else some (delay * 1000) }
    (s.shed.isSome → s.overBudget = true →
      (∀ b : BayId, can b → (∀ c : BayId, can c → c ≠ b →
          (s.bayCfg c).level < (s.bayCfg b).level
          ∨ ((s.bayCfg c).level = (s.bayCfg b).level ∧ c < b)) →
        exec .shedTimerExpiry s = .next (opportunity (restart (recompute (changeBay b (fun y => { y with
          state := .stopping, switch := false, temp := none, attempts := 0, requeue := true
          origin := some .shed, lastEvent := .shed
          timer := .stop ((s.profile b).stopTime * 100) }) { s with shed := none })))))
      ∧ ((∀ b : BayId, ¬ can b) → exec .shedTimerExpiry s = .next (restart s)))
    ∧ (s.shed = none → exec .shedTimerExpiry s = .next s)

/-- For one bay the requester may act on: STARTING and READY stop with removal intended and was
powered set and attention cleared, with a recompute and an opportunity; QUEUED leaves the queue
and becomes REMOVABLE with was powered set; OFF, BACKOFF and FAULT become REMOVABLE with it
clear; STOPPING without removal intended gains it, was powered taking requeue on stop, which is
cleared with the origin and attention; STOPPING with it and REMOVABLE are accepted unchanged;
EMPTY and SETTLING are refused WRONG_STATE. (4.2 Preparing a bay, 4.3 The removal window) -/
def Obligations.PrepareRemovalOutcomes : Prop :=
  ∀ (p : Port) (tag : Byte) (b : BayId) (s : State), s.Taking p → s.mayAct p b = true →
    let accepted := Answers (.prepareRemoval p tag [1, byte b.val]) s p 0x12 tag .ok [0]
    let h := hear p s
    let removable := fun powered : Bool => changeBay b (fun y => { y with
      state := .removable, attempts := 0, origin := none, fault := none, attention := false
      lastEvent := .removable, removalIntended := false, requeue := false, wasPowered := powered
      timer := if s.settings.removal.window = 0 then .idle
        else .removal (s.settings.removal.window * 1000) })
    match (s.bay b).state with
    | .starting | .ready => accepted (opportunity (recompute (changeBay b (fun y => { y with
        state := .stopping, switch := false, temp := none, attempts := 0, origin := none
        requeue := false, removalIntended := true, wasPowered := true, attention := false
        timer := .stop ((s.profile b).stopTime * 100) }) h)))
    | .queued => accepted (removable true { h with queue := s.queue.filter fun e => e.bay ≠ b })
    | .off | .backoff | .fault => accepted (removable false h)
    | .stopping =>
      ((s.bay b).removalIntended = true → accepted h)
      ∧ ((s.bay b).removalIntended = false → accepted (changeBay b (fun y => { y with
          removalIntended := true, wasPowered := y.requeue, requeue := false, origin := none
          attention := false }) h))
    | .removable => accepted h
    | .empty | .settling =>
      Answers (.prepareRemoval p tag [1, byte b.val]) s p 0x12 tag .wrongState [1, byte b.val, 7] h

/-- A REMOVABLE bay whose window expires, or that CANCEL REMOVAL takes, joins the queue with origin
RESTORE where the expiry policy is RESTORE and was powered is set, and else goes to OFF with no
origin; was powered is cleared and last event is WINDOW_EXPIRED or CANCELLED. CANCEL REMOVAL on a
STOPPING bay with removal intended clears it and was powered, and where was powered was set
requeue on stop is set with origin RESTORE; any other bay is refused WRONG_STATE. A
REMOVAL_WINDOW_EXPIRY of a bay that is not REMOVABLE or has no window running (a window setting
of 0) changes nothing, and an expiry acts whatever time its timer still shows: the model's
reading (log 3). (4.3 The removal window, log 3) -/
def Obligations.RemovableLeaves : Prop :=
  ∀ (p : Port) (tag : Byte) (b : BayId) (n : Nat) (s : State),
    let leave := fun (ev : LastEvent) (u : State) =>
      if s.settings.removal.expiry = .restore ∧ (s.bay b).wasPowered = true then
        queued b .restore (fun y => { y with wasPowered := false, lastEvent := ev }) u
      else changeBay b (fun y => { y with
        state := .off, origin := none, wasPowered := false, lastEvent := ev, timer := .idle }) u
    (s.resetHeld = false → (s.bay b).state = .removable → (s.bay b).timer = .removal n →
      exec (.removalWindowExpiry b) s = .next (leave .windowExpired s))
    ∧ (s.resetHeld = false → ((s.bay b).state ≠ .removable ∨ (∀ k, (s.bay b).timer ≠ .removal k)) →
      exec (.removalWindowExpiry b) s = .next s)
    ∧ (s.Taking p → s.mayAct p b = true →
      let accepted := Answers (.cancelRemoval p tag [1, byte b.val]) s p 0x13 tag .ok [0]
      let refused :=
        Answers (.cancelRemoval p tag [1, byte b.val]) s p 0x13 tag .wrongState [1, byte b.val, 7]
          (hear p s)
      ((s.bay b).state = .removable → accepted (leave .cancelled (hear p s)))
      ∧ ((s.bay b).state = .stopping → (s.bay b).removalIntended = true →
          (s.bay b).wasPowered = true → accepted (changeBay b (fun y => { y with
            removalIntended := false, wasPowered := false, requeue := true
            origin := some .restore }) (hear p s)))
      ∧ ((s.bay b).state = .stopping → (s.bay b).removalIntended = true →
          (s.bay b).wasPowered = false → accepted (changeBay b (fun y => { y with
            removalIntended := false }) (hear p s)))
      ∧ ((s.bay b).state = .stopping → (s.bay b).removalIntended = false → refused)
      ∧ ((s.bay b).state ∉ [BayState.removable, .stopping] → refused))

/-- For one bay, from either role: a set with no named bit is refused BAD_VALUE; SET INDICATION of a
drive-bound indication in EMPTY or SETTLING is refused WRONG_STATE; else the named indications
join the requester's set, and with LOCATE its locate timer is indefinite for duration 0 and else
runs that many seconds, at most 3600. CLEAR INDICATION takes them away, LOCATE with its timer.
The expiry of a locate timer that is due takes LOCATE away; with time left, indefinite or idle it
changes nothing, so that none happens to a time which a SET INDICATION taken first has replaced.
(5.3 Host indications) -/
def Obligations.HostIndications : Prop :=
  ∀ (p : Port) (tag i d0 d1 : Byte) (b : BayId) (s : State),
    let has := fun n : Nat => i.toNat.testBit n
    let d := d0.toNat + 256 * d1.toNat
    let h := hear p s
    let add := fun x : IndSet => ({ locate := x.locate || has 0, failed := x.failed || has 1, predicted := x.predicted || has 2, rebuild := x.rebuild || has 3, hotspare := x.hotspare || has 4 } : IndSet)
    let del := fun x : IndSet => ({ locate := x.locate && !has 0, failed := x.failed && !has 1, predicted := x.predicted && !has 2, rebuild := x.rebuild && !has 3, hotspare := x.hotspare && !has 4 } : IndSet)
    let timer : LocateTimer := if d = 0 then .indefinite else .running (min d 3600 * 1000)
    (s.Taking p →
      let set := Instr.setIndication p tag [1, byte b.val, i, d0, d1]
      let clr := Instr.clearIndication p tag [1, byte b.val, i]
      (i.toNat % 32 = 0 → Answers set s p 0x30 tag .badValue [] h
        ∧ Answers clr s p 0x31 tag .badValue [] h)
      ∧ (i.toNat % 32 ≥ 2 → (s.bay b).state ∈ [BayState.empty, .settling] →
        Answers set s p 0x30 tag .wrongState [1, byte b.val, 7] h)
      ∧ (i.toNat % 32 ≠ 0 → (i.toNat % 32 = 1 ∨ (s.bay b).state ∉ [BayState.empty, .settling]) →
        Answers set s p 0x30 tag .ok [0] (changeBay b (fun y => { y with
          indications := y.indications.set p (add (y.indications.get p))
          locate := if has 0 then y.locate.set p timer else y.locate }) h))
      ∧ (i.toNat % 32 ≠ 0 → Answers clr s p 0x31 tag .ok [0] (changeBay b (fun y => { y with
          indications := y.indications.set p (del (y.indications.get p))
          locate := if has 0 then y.locate.set p .idle else y.locate }) h)))
    ∧ (s.resetHeld = false →
      ((s.bay b).locate.get p ≠ .running 0 → exec (.locateTimerExpiry p b) s = .next s)
      ∧ ((s.bay b).locate.get p = .running 0 →
        exec (.locateTimerExpiry p b) s = .next (changeBay b (fun y => { y with
          indications := y.indications.set p { y.indications.get p with locate := false }
          locate := y.locate.set p .idle }) s)))

/-- ENCLOSURE LOCATE ON sets the requester's request, indefinite for duration 0, else that many
seconds up to 3600; OFF clears it; another action is refused BAD_VALUE; the expiry of a request
that is due clears it, and with time left, indefinite or clear it changes nothing, so that none
happens to a time which an ON request taken first has replaced. LIGHT TEST, CONTROLLING only,
starts or restarts 5000 ms, posting the enclosure where none ran; its expiry ends the test and
posts the enclosure. Nothing else changes. Out of reset, in every bay state: a pulse of the
activity line puts 60 ms on the bay's dark timer, whether or not it runs; the timer's expiry
leaves it idle. No other field of the bay changes, nothing is posted and nothing else changes.
The expiries of the light test and of the dark timer act whatever time the timer still shows, and
change nothing where it is idle: the model's reading (log 3). (5.1 Elements and patterns, 5.4 The
light test, 5.5 Enclosure lights, log 3) -/
def Obligations.LightRequestsAndTimers : Prop :=
  (∀ (p : Port) (tag a d0 d1 : Byte) (s : State),
      let d := d0.toNat + 256 * d1.toNat
      let h := hear p s
      let put : LocateTimer → State → State := fun t u =>
        { u with ports := u.ports.set p { u.ports.get p with locate := t } }
      (s.Taking p →
        let c := Instr.enclosureLocate p tag [a, d0, d1]
        (a = 0 → Answers c s p 0x32 tag .ok [] (put .idle h))
        ∧ (a = 1 → Answers c s p 0x32 tag .ok []
            (put (if d = 0 then .indefinite else .running (min d 3600 * 1000)) h))
        ∧ (2 ≤ a.toNat → Answers c s p 0x32 tag .badValue [] h))
      ∧ (s.resetHeld = false →
        ((s.port p).locate ≠ .running 0 → exec (.enclosureLocateExpiry p) s = .next s)
        ∧ ((s.port p).locate = .running 0 →
          exec (.enclosureLocateExpiry p) s = .next (put .idle s))
        ∧ (s.lightTest.isSome →
          exec .lightTestExpiry s = .next (post .enclosure { s with lightTest := none }))
        ∧ (s.lightTest = none → exec .lightTestExpiry s = .next s))
      ∧ (s.Commanding p →
        let t := { h with lightTest := some 5000 }
        Answers (.lightTest p tag []) s p 0x33 tag .ok []
          (if s.lightTest = none then post .enclosure t else t)))
  ∧ (∀ (b : BayId) (s : State), s.resetHeld = false →
      exec (.activityPulse b) s = .next
        { s with bays := s.bays.set b { s.bay b with dark := some 60 } }
      ∧ exec (.activityDarkTimerExpiry b) s = .next
        { s with bays := s.bays.set b { s.bay b with dark := none } })

/-- Out of reset with no light test, at a frame position of 0-1999: green is a wink in QUEUED, slow
in STARTING, lit but for the dark timer in READY, fast in BACKOFF and STOPPING, else dark; amber
is lit in FAULT or with FAILED in either port's set, else fast with the attention request, slow
with PREDICTED, a wink with REBUILD, else dark; blue is lit in REMOVABLE, else slow with LOCATE,
a wink with HOTSPARE, else dark. In reset every element is dark, in a light test lit. Out of
reset with no light test: the fault light is lit exactly while a bay is in FAULT, a fan FAILED, a
zone OVERHEAT or BLIND, an installed supply failed or the drawer over budget; the locate light
shows SLOW while either port's request is set, and is else dark. In a light test both are lit; in
reset both are dark and every fan is driven at 100; else an ABSENT fan is driven at 0 and another
at its zone's applied duty. The frame is 0 after RESET_RELEASE, advances by 1 modulo 2000 at a
step with no command waiting (1 ms, log 1; not in reset), and stays at every other step; so a
position below 2000 stays below 2000. (5.1 Elements and patterns, 5.2 Composition, 5.4 The light
test, 5.5 Enclosure lights, 6.1 Zone and fan state, log 1) -/
def Obligations.LightOutputs : Prop :=
  (∀ (b : BayId) (s : State), s.frame < 2000 →
      let y := s.bay b
      let slow : Bool := s.frame < 500 || (1000 ≤ s.frame && s.frame < 1500)
      let fast : Bool := s.frame - 250 * (s.frame / 250) < 125
      let wink : Bool := s.frame < 200
      let either := fun f : IndSet → Bool => f y.indications.a || f y.indications.b
      (s.resetHeld = true → ∀ e : Element, s.elementLit b e = false)
      ∧ (s.resetHeld = false → s.lightTest.isSome → ∀ e : Element, s.elementLit b e = true)
      ∧ (s.resetHeld = false → s.lightTest = none →
        (s.elementLit b .green = match y.state with
          | .queued => wink | .starting => slow | .ready => y.dark.isNone
          | .backoff | .stopping => fast | _ => false)
        ∧ (s.elementLit b .amber =
            if y.state = .fault ∨ either IndSet.failed = true then true
            else if y.attention then fast
            else if either IndSet.predicted then slow
            else if either IndSet.rebuild then wink else false)
        ∧ (s.elementLit b .blue =
            if y.state = .removable then true
            else if either IndSet.locate then slow
            else if either IndSet.hotspare then wink else false)))
  ∧ (∀ s : State, s.frame < 2000 →
      let slow : Bool := s.frame < 500 || (1000 ≤ s.frame && s.frame < 1500)
      (s.resetHeld = true → s.faultLit = false ∧ s.locateLit = false ∧ ∀ f : FanId, s.fanDrive f = 100)
      ∧ (s.resetHeld = false → s.lightTest.isSome → s.faultLit = true ∧ s.locateLit = true)
      ∧ (s.resetHeld = false → s.lightTest = none →
        (s.faultLit = true ↔
          (∃ b : BayId, (s.bay b).state = .fault)
          ∨ (∃ f : FanId, (s.fans.get f).state = .failed)
          ∨ (∃ z : ZoneId, (s.zone z).overheat = true ∨ (s.zone z).blind = true)
          ∨ (∃ i : SupplyId, (s.settings.supplies.get i).installed = true
              ∧ (s.supplies.get i).good = false)
          ∨ s.overBudget = true)
        ∧ (s.ports.a.locate = .idle → s.ports.b.locate = .idle → s.locateLit = false)
        ∧ (¬ (s.ports.a.locate = .idle ∧ s.ports.b.locate = .idle) → s.locateLit = slow))
      ∧ (s.resetHeld = false → ∀ f : FanId,
        ((s.fans.get f).state = .absent → s.fanDrive f = 0)
        ∧ ((s.fans.get f).state ≠ .absent →
            s.fanDrive f = (s.zone ⟨f.val / 4, by omega⟩).applied)))
  ∧ (∀ s t : State, step s = .next t →
      (t.frame = match s.pending with
        | [] => if s.resetHeld then s.frame else (s.frame + 1) % 2000
        | .resetRelease _ _ :: _ => 0
        | _ :: _ => s.frame)
      ∧ (s.frame < 2000 → t.frame < 2000))

/-- For a report of 1 to 30 pairs: a STARTING or READY bay holds the temperature of its last pair,
clamped to -40 to 125, at age 0; every other field and bay stays; the reply counts the pairs
taken, those of bays not powered, and those above bay 59. Nothing is posted and nothing else
changes. (6.2 Temperatures, 11.5 Other reply payloads) -/
def Obligations.ReportedTemperatures : Prop :=
  ∀ (p : Port) (tag : Byte) (pairs : List (Byte × Byte)) (s : State), s.Taking p →
    1 ≤ pairs.length → pairs.length ≤ 30 →
    let powered := fun x : Byte => (bayOf x).any fun b =>
      decide ((s.bay b).state ∈ [BayState.starting, .ready])
    ∃ bays : Vector Bay 60,
      Answers (.reportDriveTemperatures p tag (byte pairs.length :: pairs.flatMap fun q => [q.1, q.2]))
        s p 0x40 tag .ok
        [byte (pairs.countP fun q => powered q.1),
         byte (pairs.countP fun q => decide (q.1.toNat < 60) && !powered q.1),
         byte (pairs.countP fun q => decide (60 ≤ q.1.toNat))]
        { hear p s with bays := bays }
      ∧ ∀ b : BayId, bays.get b =
          match pairs.reverse.find? fun q => q.1.toNat = b.val with
          | none => s.bay b
          | some q =>
            if (s.bay b).state ∈ [BayState.starting, .ready] then
              { s.bay b with temp := some { value := max (-40) (min 125 q.2.toInt), ageMs := 0 } }
            else s.bay b

/-- Out of reset a control period of zone z completes. T is the highest of its valid mapped sensors
and fresh temperatures of its powered bays, and BLIND its absence. With a T: HOLD and OVERHEAT
set at their threshold, clear at max(hysteresis, 1) below it, and else stay; the effective
ceiling is 100 under OVERHEAT, else the ceiling; the curve input follows a rise at once and a
fall with the hysteresis. Without: these stay. Boost is the capped sum of its STARTING bays;
demand is the first line of R110 that holds; the applied duty moves to it by at most a slew; the
reservation duty is the higher of ceiling and applied duty; DEGRADED is a FAILED fan. Other zones
and all settings stay. (6.3 The control period, 6.4 Effective ceiling and reservation duty) -/
def Obligations.ControlPeriodStages : Prop :=
  ∀ (z : ZoneId) (inputs : Vector (Option Int) 8) (speeds : Vector (BitVec 16) 4) (s : State),
    s.resetHeld = false →
    ∃ t, exec (.controlPeriod z inputs speeds) s = .next t ∧
      let c := s.zoneCfg z
      let x := s.zone z
      let y := t.zone z
      let found := ((List.finRange 8).filterMap fun i =>
          if s.settings.sensorMap.get i = some z then
            (inputs.get i).filter fun v => decide (-40 ≤ v ∧ v ≤ 125) else none)
        ++ (List.finRange 60).filterMap fun b =>
          if (s.bayCfg b).zone = z ∧ (s.bay b).state ∈ [BayState.starting, .ready] then
            ((s.bay b).temp.filter fun d =>
              decide (min (d.ageMs / 1000) 65535 ≤ s.settings.staleness)).map (·.value)
          else none
      let margin : Int := max c.hysteresis 1
      (found = [] → y.temp = none ∧ y.blind = true ∧ y.hold = x.hold ∧ y.overheat = x.overheat
        ∧ y.ceiling = x.ceiling ∧ y.curveInput = x.curveInput)
      ∧ (∀ v ∈ found, (∀ w ∈ found, w ≤ v) →
        y.temp = some v ∧ y.blind = false
        ∧ (y.hold = true ↔ c.hold ≤ v ∨ (x.hold = true ∧ c.hold - margin < v))
        ∧ (y.overheat = true ↔ c.critical ≤ v ∨ (x.overheat = true ∧ c.critical - margin < v))
        ∧ y.ceiling = (if y.overheat then 100 else c.ceiling)
        ∧ (x.curveInput = none → y.curveInput = some v)
        ∧ (∀ h ∈ x.curveInput, y.curveInput = some (if h ≤ v then v else min h (v + c.hysteresis))))
      ∧ (y.degraded = true ↔ ∃ i : Fin 4, (t.fans.get (fanOf z i)).state = .failed)
      ∧ y.boost = min 40 (((List.finRange 60).filter fun b =>
          (s.bay b).state = .starting ∧ (s.bayCfg b).zone = z).map fun b => (s.profile b).boost).sum
      ∧ y.demand = (if y.overheat then 100 else if y.degraded then y.ceiling
          else if y.blind then max c.floor (min c.failsafe y.ceiling)
          else min y.ceiling (max c.floor (curveDuty c.curve (y.curveInput.getD 0) + y.boost)))
      ∧ (x.applied ≤ y.demand → y.applied = min y.demand (x.applied + c.slewUp))
      ∧ (y.demand ≤ x.applied → y.applied = max y.demand (x.applied - c.slewDown))
      ∧ y.reservation = max y.ceiling y.applied ∧ y.periodMs = 1000
      ∧ (∀ w : ZoneId, w ≠ z → t.zone w = s.zone w) ∧ t.settings = s.settings

/-- Out of reset, at a control period of zone z: a RUNNING fan with speed below the stall speed at an
applied duty of 20 or more raises its stall run and at 3 is FAILED, else the run is 0; a FAILED
fan at or above the stall speed raises its recovery run and at 3 is RUNNING, else the run is 0;
ABSENT fans and other zones' fans stay. Each sensor mapped to z is read: valid with its input
where that is not open and within -40 to 125, else not valid and without a reading; every other
sensor keeps its record. The zone is posted exactly where a flag or fan state of it changed; a
changed reservation duty makes the Ledger recompute; an opportunity follows where that changed A
or cleared over-budget, or where the zone's hold cleared. (6.5 Fans, 6.6 What the zone hands on,
6.4 Effective ceiling and reservation duty, 6.2 Temperatures) -/
def Obligations.ControlPeriodHandsOn : Prop :=
  ∀ (z : ZoneId) (inputs : Vector (Option Int) 8) (speeds : Vector (BitVec 16) 4) (s : State),
    s.resetHeld = false →
    ∃ u : State, u = { s with zones := u.zones, fans := u.fans, sensors := u.sensors, ports := u.ports }
      ∧ (let v := if (u.zone z).reservation = (s.zone z).reservation then u else recompute u
         exec (.controlPeriod z inputs speeds) s = .next
          (if v.totals.allowance ≠ s.totals.allowance ∨ (s.overBudget = true ∧ v.overBudget = false)
              ∨ ((s.zone z).holds = true ∧ (u.zone z).holds = false)
           then opportunity v else v))
      ∧ (∀ k : SensorId, u.sensors.get k =
          if s.settings.sensorMap.get k = some z then
            match inputs.get k with
            | none => { reading := none, valid := false }
            | some v => if -40 ≤ v ∧ v ≤ 125 then { reading := some v, valid := true }
              else { reading := none, valid := false }
          else s.sensors.get k)
      ∧ (∀ f : FanId, f.val / 4 ≠ z.val → u.fans.get f = s.fans.get f)
      ∧ (∀ i : Fin 4,
        let f := s.fans.get (fanOf z i)
        let g := u.fans.get (fanOf z i)
        let v := speeds.get i
        let slow := v.toNat < (s.zoneCfg z).stallSpeed
        (f.state = .absent → g = f)
        ∧ (f.state = .running → slow → 20 ≤ (s.zone z).applied →
            g = if f.stallRun + 1 < 3 then { f with speed := v, stallRun := f.stallRun + 1 }
              else { state := .failed, speed := v, stallRun := 0, recoveryRun := 0 })
        ∧ (f.state = .running → ¬ (slow ∧ 20 ≤ (s.zone z).applied) →
            g = { f with speed := v, stallRun := 0 })
        ∧ (f.state = .failed → ¬ slow →
            g = if f.recoveryRun + 1 < 3 then { f with speed := v, recoveryRun := f.recoveryRun + 1 }
              else { state := .running, speed := v, stallRun := 0, recoveryRun := 0 })
        ∧ (f.state = .failed → slow → g = { f with speed := v, recoveryRun := 0 }))
      ∧ (let changed := ((s.zone z).hold, (s.zone z).overheat, (s.zone z).blind, (s.zone z).degraded)
            ≠ ((u.zone z).hold, (u.zone z).overheat, (u.zone z).blind, (u.zone z).degraded)
          ∨ ∃ i : Fin 4, (s.fans.get (fanOf z i)).state ≠ (u.fans.get (fanOf z i)).state
        (changed → u.ports = (post (.zone z) s).ports) ∧ (¬ changed → u.ports = s.ports))

/-- For a curve of 2 to 6 points of strictly ascending temperatures and duties 0-100: at or below the
first temperature the first duty, at or above the last the last, and from a point up to but not
including the next the straight line between their duties, rounded to the next higher whole
percent, on a falling segment too; always between the least and greatest duty of its points.
Every zone's curve is of this kind while its settings are in range; after reset it is the factory
curve, which gives the manual's worked values. (R108) -/
def Obligations.CurveDuty : Prop :=
  ∀ (c : List (Int × Nat)) (x : Int), CurveInRange c →
    (∀ q ∈ c.head?, x ≤ q.1 → curveDuty c x = q.2)
    ∧ (∀ q ∈ c.getLast?, q.1 ≤ x → curveDuty c x = q.2)
    ∧ (∀ (before after : List (Int × Nat)) (t u : Int) (d e : Nat),
        c = before ++ (t, d) :: (u, e) :: after → t ≤ x → x < u →
        ((e : Int) - d) * (x - t) ≤ ((curveDuty c x : Int) - d) * (u - t)
        ∧ ((curveDuty c x : Int) - d) * (u - t) < ((e : Int) - d) * (x - t) + (u - t))
    ∧ (∃ q ∈ c, q.2 ≤ curveDuty c x) ∧ (∃ q ∈ c, curveDuty c x ≤ q.2) ∧ curveDuty c x ≤ 100
    ∧ (∀ (s : State) (z : ZoneId), s.SettingsOk → CurveInRange (s.zoneCfg z).curve)
    ∧ (∀ z : ZoneId, (State.reset.zoneCfg z).curve = [(25, 30), (35, 45), (45, 80), (55, 100)])
    ∧ [20, 36, 37, 41, 48, 60].map (curveDuty [(25, 30), (35, 45), (45, 80), (55, 100)])
        = [30, 49, 52, 66, 86, 100]
    ∧ curveDuty [(30, 60), (37, 40)] 32 = 55

/-- From the CONTROLLING port with a setting present: a zone above 3 is refused BAD_VALUE; else the
present settings are stored, clamped (the hold and critical temperatures as signed bytes, every
other number as unsigned), a ceiling below the floor raised to it, a floor written alone above
the ceiling lowered to it, and the critical temperature raised to the hold temperature; the reply
gives all eleven. The fans follow the count, the effective ceiling the ceiling, the reservation
duty both, and the Ledger recomputes (ledgerEvent, said in CollapseStopsEveryBay) where the
reservation duty, fan count or fan draw changed. When the fan count of zone z acts: a fan of the
zone at or beyond the count is ABSENT with both runs 0; an ABSENT fan below it becomes RUNNING
with both runs 0; another keeps its record; DEGRADED is set exactly where a fan of the zone is
FAILED; the zone is posted exactly where one of its fan states or DEGRADED changed; other zones
and fans and everything else stay. (6.7 Zone settings, 6.4 Effective ceiling and reservation
duty, 6.5 Fans) -/
def Obligations.SetZoneAndFanCount : Prop :=
  (∀ (p : Port) (tag x m0 m1 fl ce fs hy su sd ho cr fc d0 d1 s0 s1 : Byte) (s : State),
      s.Commanding p → (m0.toNat + 256 * m1.toNat) % 2048 ≠ 0 →
      let has := fun i : Nat => (m0.toNat + 256 * m1.toNat).testBit i = true
      let c := Instr.setZone p tag
        [x, m0, m1, fl, ce, fs, hy, su, sd, ho, cr, fc, d0, d1, s0, s1]
      (4 ≤ x.toNat → Answers c s p 0x41 tag .badValue [] (hear p s))
      ∧ ∀ z : ZoneId, x.toNat = z.val →
        let old := s.zoneCfg z
        let floor := if has 0 then min 100 fl.toNat else old.floor
        let ceiling := if has 1 then min 100 ce.toNat else old.ceiling
        let hold := if has 6 then max 0 (min 125 ho.toInt) else old.hold
        let critical := if has 7 then max 0 (min 125 cr.toInt) else old.critical
        let new : ZoneSettings :=
          { floor := if has 1 then floor else min floor ceiling
            ceiling := if has 1 then max ceiling floor else ceiling
            failsafe := if has 2 then min 100 fs.toNat else old.failsafe
            hysteresis := if has 3 then min 10 hy.toNat else old.hysteresis
            slewUp := if has 4 then max 1 (min 100 su.toNat) else old.slewUp
            slewDown := if has 5 then max 1 (min 100 sd.toNat) else old.slewDown
            hold := hold, critical := max hold critical
            fanCount := if has 8 then min 4 fc.toNat else old.fanCount
            fanDraw := if has 9 then min 1000 (d0.toNat + 256 * d1.toNat) else old.fanDraw
            stallSpeed := if has 10 then min 10000 (s0.toNat + 256 * s1.toNat) else old.stallSpeed
            curve := old.curve }
        let t := recountFans z
          { hear p s with settings := { s.settings with zones := s.settings.zones.set z new } }
        let top := if (s.zone z).overheat then 100 else new.ceiling
        let u := { t with zones := t.zones.set z { t.zone z with
          ceiling := top, reservation := max top (s.zone z).applied } }
        Answers c s p 0x41 tag .ok
          ([byte new.floor, byte new.ceiling, byte new.failsafe, byte new.hysteresis, byte new.slewUp,
            byte new.slewDown, BitVec.ofInt 8 new.hold, BitVec.ofInt 8 new.critical, byte new.fanCount]
            ++ le16 new.fanDraw ++ le16 new.stallSpeed)
          (if new.fanCount = old.fanCount ∧ new.fanDraw = old.fanDraw
              ∧ (u.zone z).reservation = (s.zone z).reservation then u else ledgerEvent u))
  ∧ (∀ (z : ZoneId) (s : State),
      let t := recountFans z s
      (∀ i : Fin 4,
        let f := s.fans.get (fanOf z i)
        t.fans.get (fanOf z i) =
          if (s.zoneCfg z).fanCount ≤ i.val then { f with state := .absent, stallRun := 0, recoveryRun := 0 }
          else if f.state = .absent then { f with state := .running, stallRun := 0, recoveryRun := 0 }
          else f)
      ∧ (∀ f : FanId, f.val / 4 ≠ z.val → t.fans.get f = s.fans.get f)
      ∧ ((t.zone z).degraded = true ↔ ∃ i : Fin 4, (t.fans.get (fanOf z i)).state = .failed)
      ∧ t = { s with
          fans := t.fans, zones := s.zones.set z { s.zone z with degraded := (t.zone z).degraded }
          ports := t.ports }
      ∧ t.ports =
        if (t.zone z).degraded = (s.zone z).degraded
            ∧ ∀ i : Fin 4, (t.fans.get (fanOf z i)).state = (s.fans.get (fanOf z i)).state
        then s.ports else (post (.zone z) s).ports)

/-- From the CONTROLLING port: SET CURVE refuses BAD_VALUE a zone above 3, fewer than 2 or more than
6 points, or temperatures that once clamped do not strictly ascend; else the clamped curve
replaces the old one and is the reply. SET SENSOR MAP with an entry present refuses an unknown
entry BAD_VALUE; else the entries and the staleness limit (10-600) are stored, sensors mapped to
NONE lose their reading and are not valid (the latter is the model's choice, log 33), and the
reply gives map and limit. Nothing is posted and nothing else changes. (6.7 Zone settings, 11.2
Type codes and request payloads, log 33) -/
def Obligations.SetCurveAndSensorMap : Prop :=
  ∀ (p : Port) (tag x m0 m1 l0 l1 : Byte) (ps : List (Byte × Byte)) (es : Vector Byte 8) (s : State),
    s.Commanding p →
    let h := hear p s
    (ps.length < 256 →
      let c := Instr.setCurve p tag (x :: byte ps.length :: ps.flatMap fun q => [q.1, q.2])
      let new := ps.map fun q => (max (-40) (min 125 q.1.toInt), min q.2.toNat 100)
      let good := 2 ≤ ps.length ∧ ps.length ≤ 6 ∧ new.Pairwise fun q r => q.1 < r.1
      (4 ≤ x.toNat ∨ ¬ good → Answers c s p 0x42 tag .badValue [] h)
      ∧ ∀ z : ZoneId, x.toNat = z.val → good →
        Answers c s p 0x42 tag .ok
          (byte ps.length :: new.flatMap fun q => [BitVec.ofInt 8 q.1, byte q.2])
          { h with settings := { s.settings with
            zones := s.settings.zones.set z { s.zoneCfg z with curve := new } } })
    ∧ ((m0.toNat + 256 * m1.toNat) % 512 ≠ 0 →
      let has := fun i : Nat => (m0.toNat + 256 * m1.toNat).testBit i = true
      let c := Instr.setSensorMap p tag (m0 :: m1 :: (es.toList ++ [l0, l1]))
      let bad := ∃ i : Fin 8, has i.val ∧ 4 ≤ (es.get i).toNat ∧ es.get i ≠ 0xFF
      let map : Vector (Option ZoneId) 8 := Vector.ofFn fun i =>
        if has i.val then fourOf (es.get i) else s.settings.sensorMap.get i
      let limit := if has 8 then max 10 (min 600 (l0.toNat + 256 * l1.toNat)) else s.settings.staleness
      (bad → Answers c s p 0x43 tag .badValue [] h)
      ∧ (¬ bad → Answers c s p 0x43 tag .ok
        (map.toList.map (fun e => match e with | none => 0xFF | some z => byte z.val) ++ le16 limit)
        { h with
          settings := { s.settings with sensorMap := map, staleness := limit }
          sensors := Vector.ofFn fun i => if map.get i = none then { reading := none, valid := false }
            else s.sensors.get i }))

/-- From the CONTROLLING port: while a plan is RUNNING, PAUSED or ABORTING the three are refused
BUSY. WRITE STEP refuses BAD_VALUE a slot or next index above 31, an action above 5 or more than
8 bays; else it stores the record as PENDING with refused count 0, the wait time clamped to
1-6000 for WAIT_TIME, and answers it. START PLAN and CHECK PLAN refuse BAD_VALUE a start index
above 31 or a chain that is not in order; else START PLAN sets the chain's results to PENDING and
the engine RUNNING at the start with the requester as owner, and posts the plan, and CHECK PLAN
answers its report (CheckPlanProjection says what it holds). The walk from a slot accepts a chain
exactly when it begins at that slot, meets no slot twice and only well-formed steps, goes from
each step to its next index, and ends at its first step with last set. An ON, OFF or REMOVE step
is well formed with 1 to 8 distinct bays 0-59, a WAIT step with none, a step of action NONE
never. (7.1 The plan table, 7.2 The engine, 7.5 Checking a plan) -/
def Obligations.PlanTableAndChains : Prop :=
  (∀ (p : Port) (tag sl ac fl nx w0 w1 : Byte) (bays : List Byte) (s : State), s.Commanding p →
      bays.length < 256 →
      let h := hear p s
      let busy : Prop := s.plan.engine ∈ [EngineState.running, .paused, .aborting]
      let w := Instr.writeStep p tag (sl :: ac :: fl :: nx :: w0 :: w1 :: byte bays.length :: bays)
      let bad : Prop := 32 ≤ sl.toNat ∨ 6 ≤ ac.toNat ∨ 32 ≤ nx.toNat ∨ 8 < bays.length
      (busy → Answers w s p 0x60 tag .busy [] h ∧ Answers (.startPlan p tag [sl]) s p 0x61 tag .busy [] h
        ∧ Answers (.checkPlan p tag [sl]) s p 0x65 tag .busy [] h)
      ∧ (¬ busy → bad → Answers w s p 0x60 tag .badValue [] h)
      ∧ (¬ busy → ¬ bad → ∀ i n : SlotId, sl.toNat = i.val → nx.toNat = n.val →
          ∀ a ∈ StepAction.ofCode ac.toNat,
          let wait := max 1 (min 6000 (w0.toNat + 256 * w1.toNat))
          let st : Step :=
            { action := a, bays := bays, wait := if a = .waitTime then some wait else none
              notify := fl.toNat.testBit 0, last := fl.toNat.testBit 1, next := n
              result := .pending, refused := 0 }
          Answers w s p 0x60 tag .ok
            ([sl, ac, byte (fl.toNat % 4), nx] ++ le16 (if a = .waitTime then wait else 0) ++
              [0, 0, byte bays.length] ++ bays ++ List.replicate (8 - bays.length) 0xFF)
            { h with plan := { s.plan with steps := s.plan.steps.set i st } })
      ∧ (¬ busy → 32 ≤ sl.toNat → Answers (.startPlan p tag [sl]) s p 0x61 tag .badValue [] h
          ∧ Answers (.checkPlan p tag [sl]) s p 0x65 tag .badValue [] h)
      ∧ ∀ i : SlotId, ¬ busy → sl.toNat = i.val →
        (s.plan.chain i = none → Answers (.startPlan p tag [sl]) s p 0x61 tag .badValue [] h
          ∧ Answers (.checkPlan p tag [sl]) s p 0x65 tag .badValue [] h)
        ∧ ∀ c ∈ s.plan.chain i,
          Answers (.checkPlan p tag [sl]) s p 0x65 tag .ok (checkPlanReport p c h) h
          ∧ ∃ steps : Vector Step 32,
            (∀ j : SlotId, steps.get j = if j ∈ c then
                { s.plan.steps.get j with result := .pending, refused := 0 } else s.plan.steps.get j)
            ∧ Answers (.startPlan p tag [sl]) s p 0x61 tag .ok [] (post .plan { h with plan :=
              { steps := steps, engine := .running, outcome := none, owner := some p, current := some i
                inProgress := false, pendingSet := [], lost := 0, wait := .idle, notified := none } }))
  ∧ (∀ (pl : Plan) (i : SlotId) (c : List SlotId),
      (pl.chain i = some c ↔
        c.head? = some i ∧ c.Nodup ∧ (∀ j ∈ c, (pl.steps.get j).wellFormed = true)
        ∧ (∃ before e, c = before ++ [e] ∧ (pl.steps.get e).last = true
            ∧ ∀ j ∈ before, (pl.steps.get j).last = false)
        ∧ ∀ before j k after, c = before ++ j :: k :: after → (pl.steps.get j).next = k)
      ∧ ∀ st : Step, st.wellFormed = true ↔
          (st.action ∈ [StepAction.on, .off, .remove] ∧ 1 ≤ st.bays.length ∧ st.bays.length ≤ 8
            ∧ st.bays.Nodup ∧ ∀ x ∈ st.bays, x.toNat < 60)
          ∨ (st.action ∈ [StepAction.waitTime, .waitSettled] ∧ st.bays = []))

/-- Out of reset, RUNNING with no step in progress: an ON, OFF or REMOVE step takes its bays in order
with the plan's rights and ends DONE, or PARTIAL with the count of bays refused; WAIT_TIME starts
the wait timer; WAIT_SETTLED ends at once with an empty pending set, its lost count (at most 8)
as refused count, and else waits. The wait timer's expiry ends its step DONE. In any other engine
state neither command changes anything. A step's end writes its result, keeps its slot and result
as notified with notify set, and goes on to the next index, or with last set to DONE and
COMPLETE. A step refuses NOT_OWNER a bay owned by a port other than the plan's owner, whatever
the roles, and changes nothing. Else an ON step queues an OFF bay with origin PLAN, or marks a
STOPPING bay with neither flag to return with it, and the bay joins the pending set first; an
accepted bay already on its way joins nothing; a refused one is WRONG_STATE. OFF and REMOVE act
as POWER OFF and PREPARE REMOVAL. That a step of action NONE does nothing, and that an absent
wait time is 1 tick, are the model's choices for cases no run reaches (log 25); that the notified
result is a copy of the result at the step's end is its choice too (log 31). A command that finds
its timer idle or its state passed changes nothing, and an expiry acts whatever time its timer
still shows: the model's reading (log 3). (7.3 Running a plan, 2.3 Power requests, log 3, log 25,
log 31) -/
def Obligations.PlanStepsRunAndEnd : Prop :=
  (∀ (s : State) (i : SlotId), s.resetHeld = false → s.plan.current = some i →
      let st := s.plan.steps.get i
      let ended : Plan → StepResult → Nat → Plan := fun pl r n => { pl with
        steps := pl.steps.set i { pl.steps.get i with result := r, refused := n }
        notified := if st.notify then some (i, r) else pl.notified, inProgress := false }
      let goesOn : State → StepResult → Nat → State := fun u r n =>
        if st.last then post .plan { u with plan := { ended u.plan r n with
          engine := .done, outcome := some .complete, pendingSet := [], lost := 0 } }
        else
          let v := { u with plan := { ended u.plan r n with current := some st.next } }
          if st.notify then post .plan v else v
      (s.plan.engine = .running → s.plan.inProgress = false →
        (st.action = .waitTime → exec .planStep s = .next { s with plan := { s.plan with
          inProgress := true, wait := .running (st.wait.getD 1 * 100) } })
        ∧ (st.action = .waitSettled → s.plan.pendingSet ≠ [] →
            exec .planStep s = .next { s with plan := { s.plan with inProgress := true } })
        ∧ (st.action = .waitSettled → s.plan.pendingSet = [] →
            exec .planStep s = .next
              (goesOn { s with plan := { s.plan with lost := 0 } } .done (min s.plan.lost 8)))
        ∧ (st.action ∈ [StepAction.on, .off, .remove] →
            let r := takeBays (stepBay st.action) st.bays s
            exec .planStep s = .next (endStep (if r.2 = [] then .done else .partly) r.2.length r.1))
        ∧ (st.action = .none → exec .planStep s = .next s))
      ∧ (s.plan.engine ≠ .running ∨ s.plan.inProgress = true → exec .planStep s = .next s)
      ∧ (s.plan.engine = .running → (∃ n, s.plan.wait = .running n) →
          exec .waitTimeExpiry s = .next (goesOn { s with plan := { s.plan with wait := .idle } } .done 0))
      ∧ (s.plan.engine ≠ .running ∨ (∀ n, s.plan.wait ≠ .running n) →
          exec .waitTimeExpiry s = .next s)
      ∧ ∀ (r : StepResult) (n : Nat), endStep r n s = goesOn s r n)
  ∧ (∀ (b : BayId) (s : State),
      let joined := { s with plan := { s.plan with
        pendingSet := if b ∈ s.plan.pendingSet then s.plan.pendingSet else s.plan.pendingSet ++ [b] } }
      (∀ q ∈ (s.bay b).owner, s.plan.owner ≠ some q →
        ∀ act : StepAction, stepBay act b s = (s, some .notOwner))
      ∧ ((∀ q ∈ (s.bay b).owner, s.plan.owner = some q) →
        stepBay .off b s = powerOffBay b s ∧ stepBay .remove b s = prepareBay b s
        ∧ ((s.bay b).state = .off →
            stepBay .on b s = (queued b .plan (fun y => { y with lastEvent := .queued }) joined, none))
        ∧ ((s.bay b).state = .stopping → (s.bay b).removalIntended = false →
            (s.bay b).requeue = false → stepBay .on b s =
              (changeBay b (fun y => { y with requeue := true, origin := some .plan }) joined, none))
        ∧ ((s.bay b).state ∈ [BayState.queued, .starting, .ready, .backoff] ∨
            ((s.bay b).state = .stopping ∧ (s.bay b).removalIntended = false
              ∧ (s.bay b).requeue = true) → stepBay .on b s = (s, none))
        ∧ ((s.bay b).state ∈ [BayState.removable, .fault, .empty, .settling] ∨
            ((s.bay b).state = .stopping ∧ (s.bay b).removalIntended = true) →
            stepBay .on b s = (s, some .wrongState))))

/-- From the CONTROLLING port: PAUSE stops a RUNNING engine and freezes its wait timer, is accepted
without change in PAUSED, else refused WRONG_STATE. RESUME lets a PAUSED engine go on with its
timer, a WAIT_SETTLED step with an empty pending set ending at once; without change in RUNNING,
else WRONG_STATE. ABORT with an empty pending set in PAUSED marks the PENDING steps from the
current one on SKIPPED and ends in DONE with outcome ABORTED; it is accepted without change in
ABORTING and WRONG_STATE elsewhere. Each change of engine posts the plan. From a state whose
queue and plan are in order, ABORT PLAN in PAUSED leaves every QUEUED bay of the pending set with
origin PLAN in OFF, no origin, attempts 0, last event STOPPED, and out of the queue; clears
requeue on stop and the origin of a STOPPING one; leaves every other bay as it is; posts the plan
at the entry into ABORTING, and so before any bay, then each bay withdrawn, and after all of
these each bay cleared, an object that stands in a list already keeping its place; and ends in
DONE with outcome ABORTED, or in ABORTING exactly where a bay of the pending set is STARTING with
origin PLAN. (7.4 Pausing and aborting, 2.4 The spin-up queue) -/
def Obligations.PauseResumeAndAbort : Prop :=
  (∀ (p : Port) (tag : Byte) (s : State), s.Commanding p →
      let h := hear p s
      let e := s.plan.engine
      let moved : EngineState → WaitTimer → State := fun en w =>
        post .plan { h with plan := { s.plan with engine := en, wait := w } }
      (e = .running → Answers (.pausePlan p tag []) s p 0x62 tag .ok []
        (moved .paused (match s.plan.wait with | .running n => .frozen n | w => w)))
      ∧ (e = .paused → Answers (.pausePlan p tag []) s p 0x62 tag .ok [] h)
      ∧ (e ∈ [EngineState.idle, .aborting, .done] →
          Answers (.pausePlan p tag []) s p 0x62 tag .wrongState [] h)
      ∧ (e = .paused →
          let t := moved .running (match s.plan.wait with | .frozen n => .running n | w => w)
          Answers (.resumePlan p tag []) s p 0x63 tag .ok []
            (if t.plan.awaitsSettled = true ∧ s.plan.pendingSet = [] then endWaitSettled t else t))
      ∧ (e = .running → Answers (.resumePlan p tag []) s p 0x63 tag .ok [] h)
      ∧ (e ∈ [EngineState.idle, .aborting, .done] →
          Answers (.resumePlan p tag []) s p 0x63 tag .wrongState [] h)
      ∧ (e = .paused → s.plan.pendingSet = [] → ∃ t : State,
          Answers (.abortPlan p tag []) s p 0x64 tag .ok [] t
          ∧ t = { h with plan := t.plan, ports := t.ports }
          ∧ Obj.plan ∈ t.ports.a.changes ∧ Obj.plan ∈ t.ports.b.changes
          ∧ t.plan = { s.plan with
              engine := .done, outcome := some .aborted, lost := 0, wait := .idle, inProgress := false
              steps := t.plan.steps }
          ∧ ∀ j : SlotId,
            let rest := (s.plan.current.bind s.plan.chain).getD []
            t.plan.steps.get j = if j ∈ rest ∧ (s.plan.steps.get j).result = .pending
              then { s.plan.steps.get j with result := .skipped } else s.plan.steps.get j)
      ∧ (e = .aborting → Answers (.abortPlan p tag []) s p 0x64 tag .ok [] h)
      ∧ (e ∈ [EngineState.idle, .running, .done] →
          Answers (.abortPlan p tag []) s p 0x64 tag .wrongState [] h))
  ∧ (∀ (p : Port) (tag : Byte) (s : State), s.Commanding p → s.QueueOk → s.PlanOk →
      s.plan.engine = .paused → ∃ t : State,
        Answers (.abortPlan p tag []) s p 0x64 tag .ok [] t
        ∧ (∀ b : BayId,
          let mine := b ∈ s.plan.pendingSet ∧ (s.bay b).origin = some .plan
          (mine → (s.bay b).state = .queued → t.bay b = { s.bay b with
            state := .off, origin := none, attempts := 0, lastEvent := .stopped, timer := .idle })
          ∧ (mine → (s.bay b).state = .stopping →
              t.bay b = { s.bay b with requeue := false, origin := none })
          ∧ (¬ mine ∨ (s.bay b).state ∉ [BayState.queued, .stopping] → t.bay b = s.bay b))
        ∧ (∀ q : Port,
          let was := (s.port q).changes
          let posted := fun (l : List BayId) (st : BayState) => l.Nodup ∧ ∀ b : BayId, b ∈ l ↔
            b ∈ s.plan.pendingSet ∧ (s.bay b).origin = some .plan ∧ (s.bay b).state = st
              ∧ Obj.bay b ∉ was
          ∃ withdrawn cleared : List BayId,
            posted withdrawn .queued ∧ posted cleared .stopping
            ∧ (t.port q).changes = (if Obj.plan ∈ was then was else was ++ [Obj.plan])
                ++ withdrawn.map Obj.bay ++ cleared.map Obj.bay)
        ∧ t.queue = s.queue.filter (fun e =>
            !decide (e.bay ∈ s.plan.pendingSet ∧ (s.bay e.bay).origin = some .plan))
        ∧ (if ∃ b : BayId, b ∈ s.plan.pendingSet ∧ (s.bay b).state = .starting
              ∧ (s.bay b).origin = some .plan
           then t.plan.engine = .aborting
           else t.plan.engine = .done ∧ t.plan.outcome = some .aborted ∧ t.plan.pendingSet = []))

/-- For one bay, from either role: CLAIM of an unowned bay makes the requester its owner, of an own
bay changes nothing, of the peer's is refused HELD_BY_PEER; RELEASE of an own bay leaves it
unowned, of any other is refused NOT_OWNER. HANDOVER from the CONTROLLING port makes the other
port CONTROLLING, posts the enclosure and answers that port; owners and plan stay. From either
role: with the peer silent for fewer whole seconds than the silence limit TAKEOVER is refused
HELD_BY_PEER and changes nothing. Else every bay of the peer is the requester's and every other
record stays, a plan the peer owns is the requester's, the requester is CONTROLLING; the reply
counts the bays moved and says whether the plan owner and the roles changed; no setting, queue,
supply, zone or engine state changes. (8.3 Claims, 8.4 Changing roles) -/
def Obligations.ClaimsRolesAndTakeover : Prop :=
  (∀ (p : Port) (tag : Byte) (b : BayId) (s : State), s.Taking p →
      let x := byte b.val
      let h := hear p s
      ((s.bay b).owner = none → Answers (.claim p tag [1, x]) s p 0x20 tag .ok [0]
          (changeBay b (fun y => { y with owner := some p }) h))
      ∧ ((s.bay b).owner = some p → Answers (.claim p tag [1, x]) s p 0x20 tag .ok [0] h
          ∧ Answers (.release p tag [1, x]) s p 0x21 tag .ok [0]
              (changeBay b (fun y => { y with owner := none }) h))
      ∧ ((s.bay b).owner = some p.peer →
          Answers (.claim p tag [1, x]) s p 0x20 tag .heldByPeer [1, x, 6] h)
      ∧ ((s.bay b).owner ≠ some p →
          Answers (.release p tag [1, x]) s p 0x21 tag .notOwner [1, x, 4] h)
      ∧ (s.controlling = p → Answers (.handover p tag []) s p 0x22 tag .ok
          [match p with | .a => 2 | .b => 1] (post .enclosure { h with controlling := p.peer })))
  ∧ (∀ (p : Port) (tag : Byte) (s : State), s.Taking p →
      let silent := min ((s.port p.peer).silenceMs / 1000) 65535
      (silent < s.settings.ports.silenceLimit →
        Answers (.takeover p tag []) s p 0x23 tag .heldByPeer [] (hear p s))
      ∧ (s.settings.ports.silenceLimit ≤ silent → ∃ t : State,
        Answers (.takeover p tag []) s p 0x23 tag .ok
          [byte ((List.finRange 60).filter fun b => (s.bay b).owner = some p.peer).length,
           if s.plan.owner = some p.peer then 1 else 0, if s.controlling = p then 0 else 1] t
        ∧ (∀ b : BayId, t.bay b =
            if (s.bay b).owner = some p.peer then { s.bay b with owner := some p } else s.bay b)
        ∧ t.controlling = p
        ∧ (s.plan.pendingSet = [] ∨ s.PlanOk → t.plan =
            if s.plan.owner = some p.peer then { s.plan with owner := some p } else s.plan)
        ∧ (s.controlling ≠ p → Obj.enclosure ∈ t.ports.a.changes ∧ Obj.enclosure ∈ t.ports.b.changes)
        ∧ t = { s with bays := t.bays, plan := t.plan, ports := t.ports, controlling := p }))

/-- From either role: a note of 1 to 16 bytes replaces the content of the peer's slot, sets its
overrun flag where the slot held a note, and is posted to the peer alone; the reply says whether
it replaced one. READ NOTE answers the length, the overrun flag and the note of the own slot, and
empties it and clears the flag. Nothing else changes. (8.5 Notes) -/
def Obligations.Notes : Prop :=
  ∀ (p : Port) (tag : Byte) (note : List Byte) (s : State), s.Taking p →
    let full : Bool := !(s.port p.peer).note.isEmpty
    let x := s.port p
    let y := s.port p.peer
    (1 ≤ note.length → note.length ≤ 16 →
      Answers (.sendNote p tag note) s p 0x24 tag .ok [if full then 1 else 0]
        { s with ports := (s.ports.set p { x with receiver := .hunting, silenceMs := 0 }).set p.peer { y with
          note := note, noteOverrun := y.noteOverrun || full
          changes := if Obj.note ∈ y.changes then y.changes else y.changes ++ [Obj.note]
          attention := true } })
    ∧ Answers (.readNote p tag []) s p 0x25 tag .ok
        (byte x.note.length :: (if x.noteOverrun then 1 else 0) :: x.note)
        { s with ports := s.ports.set p { x with
          receiver := .hunting, silenceMs := 0, note := [], noteOverrun := false } }

/-- From the CONTROLLING port: during SAVING the request is refused BUSY; else the settings state is
SAVING with the settings as snapshot and 2000 ms, the enclosure is posted, and the reply is the
snapshot's sum, the preferred controller and the silence limit. Out of reset: a success leaves
READY, result OK and the snapshot's image in the memory; a failure, or 2 s without an end, leaves
the former state and result FAILED, the memory holding the old image, a bad one or the new, as
the command says it: the manual allows a bad image, and that it may be any of the three is the
model's choice (log 20); each posts the enclosure. With no save under way neither command,
whatever it reports, changes anything. The sum's value is open (log 7). For settings in their
ranges, the image of a snapshot holds only known values and good curves, and reading it gives
exactly these settings: no clamp or reconciliation changes them. An image is good exactly where
every enumerated value in it is one its setting knows, every curve has 2-6 points of strictly
ascending temperatures once clamped, and every map entry is a zone or NONE. A good image gives
its enumerated values, and its numbers clamped to their ranges, the run draw to the surge draw,
the ceiling raised to the floor, the critical to the hold temperature, a window of 1-9 to 10.
(The codes of an image, a curve judged after the clamp and a zone number that is clamped are the
model's, log 19.) A command that finds its timer idle or its state passed changes nothing, and an
expiry acts whatever time its timer still shows: the model's reading (log 3). (10.4 Saving, 10.2
The settings state, 10.1 The image, 11.2 Type codes and request payloads, log 7, log 3, log 19,
log 20) -/
def Obligations.SavedSettings : Prop :=
  (∀ (p : Port) (tag : Byte) (left : MemoryLeft) (snap : Settings) (was : Bool) (s : State),
      let ended : SettingsState → SaveResult → Option Image → State := fun st r m =>
        post .enclosure { s with store := st, storeMs := 0, saveResult := r, memory := m }
      (s.Commanding p → (∀ f x, s.store ≠ .saving f x) →
        Answers (.saveSettings p tag []) s p 0x70 tag .ok
          (le16 (Config.snapshotSum s.settings.image).toNat ++
            [match s.settings.ports.preferred with | .a => 1 | .b => 2,
             byte s.settings.ports.silenceLimit])
          (post .enclosure { hear p s with
            store := .saving (decide (s.store = .ready)) s.settings, storeMs := 2000 }))
      ∧ (s.Commanding p → s.store = .saving was snap →
        Answers (.saveSettings p tag []) s p 0x70 tag .busy [] (hear p s))
      ∧ (s.resetHeld = false → s.store = .saving was snap →
        exec (.saveComplete .success) s = .next (ended .ready .ok (some snap.image))
        ∧ ∀ c ∈ [Instr.saveComplete (.failure left), Instr.saveTimeout left],
          exec c s = .next (ended (if was then .ready else .defaults) .failed
            (match left with | .kept => s.memory | .bad => none | .whole => some snap.image)))
      ∧ (s.resetHeld = false → (∀ f x, s.store ≠ .saving f x) →
        (∀ o : SaveOutcome, exec (.saveComplete o) s = .next s) ∧ exec (.saveTimeout left) s = .next s))
  ∧ (∀ c : Settings, c.InRange → c.image.good = true ∧ c.image.settings = c)
  ∧ ∀ m : Image,
    let curve := fun z : ZoneId =>
      (m.zones.get z).curve.map fun q => (max (-40) (min 125 q.1), min q.2 100)
    (m.good = true ↔
      (∀ b : BayId, (m.bays.get b).sheddable < 2 ∧ (m.bays.get b).buttonEnabled < 2)
      ∧ (∀ z : ZoneId, 2 ≤ (m.zones.get z).curve.length ∧ (m.zones.get z).curve.length ≤ 6
          ∧ (curve z).Pairwise fun q r => q.1 < r.1)
      ∧ (∀ i : SensorId, m.sensorMap.get i < 4 ∨ m.sensorMap.get i = 255)
      ∧ (∀ i : SupplyId, (m.supplies.get i).installed < 2)
      ∧ m.reserve < 2 ∧ m.mode < 2 ∧ m.insertion < 2 ∧ m.restart < 2 ∧ m.expiry < 2 ∧ m.action < 2
      ∧ (m.preferred = 1 ∨ m.preferred = 2))
    ∧ (m.good = true →
      let c := m.settings
      (∀ i : ProfileId,
        let x := m.profiles.get i
        c.profiles.get i =
          { surge := min 2000 x.surge, surgeTime := max 1 (min 300 x.surgeTime)
            run := min x.run (min 2000 x.surge), boost := min 30 x.boost
            allowance := min 3 x.allowance, stopTime := min 300 x.stopTime })
      ∧ (∀ b : BayId,
        let x := m.bays.get b
        c.bays.get b =
          { zone := ⟨min x.zone 3, by omega⟩, level := ⟨min x.level 7, by omega⟩
            sheddable := decide (x.sheddable = 1), buttonEnabled := decide (x.buttonEnabled = 1) })
      ∧ (∀ z : ZoneId,
        let x := m.zones.get z
        let hold := max 0 (min 125 x.hold)
        c.zones.get z =
          { floor := min 100 x.floor, ceiling := max (min 100 x.floor) (min 100 x.ceiling)
            failsafe := min 100 x.failsafe, hysteresis := min 10 x.hysteresis
            slewUp := max 1 (min 100 x.slewUp), slewDown := max 1 (min 100 x.slewDown)
            hold := hold, critical := max hold (max 0 (min 125 x.critical))
            fanCount := min 4 x.fanCount, fanDraw := min 1000 x.fanDraw
            stallSpeed := min 10000 x.stallSpeed, curve := curve z })
      ∧ (∀ (i : SensorId) (z : ZoneId),
        (c.sensorMap.get i = some z ↔ m.sensorMap.get i = z.val)
        ∧ (c.sensorMap.get i = none ↔ m.sensorMap.get i = 255))
      ∧ c.staleness = max 10 (min 600 m.staleness)
      ∧ (∀ i : SupplyId, c.supplies.get i =
          { installed := decide ((m.supplies.get i).installed = 1)
            capacity := min 30000 (m.supplies.get i).capacity })
      ∧ c.budget =
        { reserve := if m.reserve = 0 then .none else .one, derate := max 50 (min 100 m.derate)
          base := min 20000 m.base, shedDelay := min 60 m.shedDelay }
      ∧ c.scheduler =
        { mode := if m.mode = 0 then .strict else .fill, startCap := max 1 (min 16 m.startCap)
          gap := min 100 m.gap, bypassLimit := max 1 (min 32 m.bypassLimit)
          settle := max 2 (min 50 m.settle), backoff := max 5 (min 100 m.backoff)
          insertion := if m.insertion = 0 then .manual else .auto
          restart := if m.restart = 0 then .hold else .stage }
      ∧ c.removal =
        { window := if m.window = 0 then 0 else max 10 (min 3600 m.window)
          expiry := if m.expiry = 0 then .remainOff else .restore
          action := if m.action = 0 then .notify else .direct }
      ∧ c.ports =
        { preferred := if m.preferred = 1 then .a else .b
          silenceLimit := max 2 (min 60 m.silenceLimit) })

/-- From the CONTROLLING port RESTART is refused BUSY while a plan is under way or a save; else the
settings state is LOADING, the engine IDLE with its table kept, notes emptied, both lists full,
the surge windows of STARTING bays and the start-up marks cancelled, and every other field of
bays, queue, timers, supplies and zones stays. RESET_ASSERT opens every switch enable and holds
the part in reset; that it changes nothing else, the old values being kept until the release, is
the model's choice (log 21). After RESET_RELEASE every block holds the reset values of its
chapter and the factory settings, in LOADING (a fan's measured speed, which no chapter gives, is
0 by the model's choice, log 5; so is it that no request is outstanding and that no receive line
counts as in a break, log 36): each bay whose presence contact reads present is SETTLING with the
start-up mark and the factory settle time, every other EMPTY; each supply is good exactly where
its line is high, no qualify timer running; the collapse flag is set exactly where no installed
supply is good; both lists hold all 71 objects; no bay is committed and the drawer is not over
budget. Waiting commands stay, and the memory, unless a save was cut short (log 15). (10.3 Start-
up, 10.5 RESTART, 1.1 The bay record, 2.6 Surge windows, 3.1 Supplies, 9.4 Change lists and
attention, log 5, log 15, log 21, log 36) -/
def Obligations.RestartAndReset : Prop :=
  (∀ (p : Port) (tag : Byte) (s : State),
      (s.Commanding p →
        (s.plan.engine ∈ [EngineState.running, .paused, .aborting] ∨ (∃ f x, s.store = .saving f x) →
          Answers (.restart p tag []) s p 0x71 tag .busy [] (hear p s))
        ∧ (s.plan.engine ∉ [EngineState.running, .paused, .aborting] → (∀ f x, s.store ≠ .saving f x) →
          ∃ bays : Vector Bay 60,
          (∀ b : BayId, bays.get b = { s.bay b with
            startMark := false
            timer := if (s.bay b).state = .starting then .idle else (s.bay b).timer })
          ∧ Answers (.restart p tag []) s p 0x71 tag .ok [] { s with
            store := .loading true, storeMs := 300, bays := bays
            plan := { Plan.reset with steps := s.plan.steps }
            ports := PerPort.map (fun x => { x with
                note := [], noteOverrun := false, changes := Obj.all, attention := true })
              (hear p s).ports }))
      ∧ ∃ bays : Vector Bay 60, (∀ b : BayId, bays.get b = { s.bay b with switch := false })
          ∧ exec .resetAssert s = .next { s with resetHeld := true, bays := bays })
  ∧ (∀ (presence : BitVec 60) (lines : BitVec 4) (s : State), ∃ t : State,
      exec (.resetRelease presence lines) s = .next t
      ∧ (∀ b : BayId, t.bay b = if presence.getLsbD b.val then
          { Bay.reset with state := .settling, startMark := true, timer := .settle 1000 }
        else Bay.reset)
      ∧ (∀ i : SupplyId, t.supplies.get i = { good := lines.getLsbD i.val, qualify := none })
      ∧ t.collapse = !(lines.getLsbD 0 || lines.getLsbD 1)
      ∧ t.redundancyLost = !(lines.getLsbD 0 && lines.getLsbD 1)
      ∧ t.totals.committed = 0 ∧ t.totals = t.computeTotals
      ∧ t = { State.reset with
          pending := s.pending
          memory := match s.store with | .saving _ _ => none | _ => s.memory
          bays := t.bays, supplies := t.supplies, collapse := t.collapse, totals := t.totals
          redundancyLost := t.redundancyLost })

/-- Out of reset in LOADING, from a state whose queue is in order: a good image leaves READY with its
clamped settings, no answer or a bad image DEFAULTS with the factory settings; the preferred
controller is CONTROLLING, and the enclosure is posted; with a good supply each STARTING bay
keeps its power with a fresh full surge window; a settle that waited has read its code; a READY
or STARTING bay stays powered, and with no good supply none does, also where the collapse flag
was set already (log 22); the memory then holds what the command says the read found (log 20);
the queued bays that stay queued keep the order of the re-sorted queue; the zones' ceilings
follow; the collapse flag is set exactly where no supply is good. The completion ends in an
admission opportunity: with no settle waiting it is taken on the re-sorted queue with the stagger
gap as it stood, the totals recomputed and the bays stopped that a collapse stops; and after it
no further opportunity would change anything. In any other settings state nothing changes. A
command that finds its timer idle or its state passed changes nothing, and an expiry acts
whatever time its timer still shows: the model's reading (log 3). The re-sort gives every entry
its bay's reloaded level, puts the queue in ascending level order, keeps the order of the entries
of one level, sets the bypass count to 0 exactly where the level changed, and changes nothing
else. (10.2 The settings state, 10.1 The image, 2.6 Surge windows, 3.7 The Ledger at RESTART, 8.1
Port Controller state, 2.4 The spin-up queue, 2.5 Admission, 3.6 Supply collapse, log 3, log 20,
log 22) -/
def Obligations.LoadCompletion : Prop :=
  (∀ (answer : LoadAnswer) (contacts : Vector ProfileId 60) (s : State), s.resetHeld = false →
      ((∀ r, s.store ≠ .loading r) → exec (.loadComplete answer contacts) s = .next s)
      ∧ ((∃ r, s.store = .loading r) → s.QueueOk → ∃ t : State,
        exec (.loadComplete answer contacts) s = .next t
        ∧ (let m := match answer with | .other image => image | _ => s.memory
           let read := match answer, m with
            | .noAnswer, _ => none
            | _, some i => if i.good then some i.settings else none
            | _, none => none
           t.memory = m
           ∧ (∀ c ∈ read, t.store = .ready ∧ t.settings = c)
           ∧ (read = none → t.store = .defaults ∧ t.settings = Settings.factory))
        ∧ t.controlling = t.settings.ports.preferred
        ∧ Obj.enclosure ∈ t.ports.a.changes ∧ Obj.enclosure ∈ t.ports.b.changes
        ∧ (∀ b : BayId,
          (t.goodSupplies ≠ [] → (s.bay b).state = .starting → t.bay b = { s.bay b with
            attention := (s.bay b).attention && (t.bayCfg b).buttonEnabled
            timer := .surge ((t.profile b).surgeTime * 100) })
          ∧ (t.goodSupplies ≠ [] → (s.bay b).state = .ready → t.bay b = { s.bay b with
            attention := (s.bay b).attention && (t.bayCfg b).buttonEnabled })
          ∧ ((s.bay b).state = .settling → (s.bay b).timer = .settled →
            (t.bay b).code = some (contacts.get b) ∧ (t.bay b).profile = contacts.get b
            ∧ (t.bay b).state ∈ [BayState.off, .queued, .starting])
          ∧ (t.goodSupplies = [] →
            (s.bay b).state ∈ [BayState.starting, .ready] →
              (t.bay b).state = .stopping ∧ (t.bay b).origin = some .restore))
        ∧ ((t.queue.map (·.bay)).filter fun b => decide (b ∈ s.queue.map (·.bay))).Sublist
          ((resortQueue { s with settings := t.settings }).queue.map (·.bay))
        ∧ (∀ z : ZoneId, (t.zone z).ceiling = (if (s.zone z).overheat then 100 else (t.zoneCfg z).ceiling)
            ∧ (t.zone z).reservation = max (t.zone z).ceiling (s.zone z).applied)
        ∧ t.collapse = decide (t.goodSupplies = [])
        ∧ opportunity t = t
        ∧ ((∀ b : BayId, ¬ ((s.bay b).state = .settling ∧ (s.bay b).timer = .settled)) →
          ∃ v : State, t = opportunity v ∧ recompute v = v
            ∧ v.queue = (resortQueue { s with settings := t.settings }).queue
            ∧ v.gap = s.gap ∧ v.store = t.store ∧ v.settings = t.settings
            ∧ ∀ b : BayId, (v.bay b).profile = (s.bay b).profile
              ∧ (v.bay b).state =
                if t.goodSupplies = [] ∧ (s.bay b).state ∈ [BayState.starting, .ready] then .stopping
                else (s.bay b).state)))
  ∧ ∀ s : State,
    let t := resortQueue s
    let new := s.queue.map fun e =>
      if (s.bayCfg e.bay).level = e.level then e
      else { e with level := (s.bayCfg e.bay).level, bypass := 0 }
    t = { s with queue := t.queue }
    ∧ t.queue.Pairwise (fun x y => x.level ≤ y.level)
    ∧ ∀ l : Fin 8, (t.queue.filter fun e => e.level = l) = new.filter fun e => e.level = l

/-- State.reset holds the invariants of the queue, switches, change lists, Ledger, settings, bay
records, plan, zones, ports and light frame. Its line levels, memory and measured fan speeds are
the model's choice (log 4, log 5). (1.1 The bay record, 2.4 The spin-up queue, 3.3 The budget
computation, 9.4 Change lists and attention) -/
def Obligations.ResetHoldsEveryInvariant : Prop :=
  State.reset.Inv

/-- From every state in which a bay is in the spin-up queue exactly when it is QUEUED, no bay is in
it twice, each entry's level and origin are its bay's and its bypass count at most 32, and levels
ascend, a step gives such a state. (2.4 The spin-up queue, 1.1 The bay record) -/
def Obligations.QueueIsTheQueuedBays : Prop :=
  ∀ s t : State, s.QueueOk → step s = .next t → t.QueueOk

/-- From every state in which each bay's switch enable is closed exactly when the bay is STARTING or
READY and the reset pin is not held, a step gives such a state. (1.2 The ten bay states, 2.1
Scheduler state) -/
def Obligations.SwitchesFollowTheState : Prop :=
  ∀ s t : State, s.SwitchesOk → step s = .next t → t.SwitchesOk

/-- From every state in which each port's list holds no object twice and at most 71, its attention
output is asserted exactly while the list is non-empty, its note has at most 16 bytes, an empty
slot has no overrun flag, its receiver hunts in a break and else holds no more of a frame than
its LENGTH counts, silence saturates at 65535 s and an outstanding reply has at most 247 payload
bytes, a step gives such a state. (9.4 Change lists and attention, 8.5 Notes, 11.1 Frames) -/
def Obligations.PortsStayInOrder : Prop :=
  ∀ s t : State, s.ListsOk → s.LinksOk → step s = .next t → t.ListsOk ∧ t.LinksOk

/-- From every state in which the totals are those the seven stages give, over-budget is set exactly
while K exceeds A, redundancy lost and collapse follow the good supplies, and the shed timer runs
exactly while over budget with a nonzero delay, a step gives such a state. (3.3 The budget
computation, 3.4 Over budget, 3.5 Shedding, 3.6 Supply collapse) -/
def Obligations.LedgerIsUpToDate : Prop :=
  ∀ s t : State, s.LedgerOk → step s = .next t → t.LedgerOk

/-- From every state whose settings lie in the ranges the manual gives, with floor at most ceiling,
hold at most critical, run at most surge draw and good curves, a step gives such a state: no
request and no image, good or bad, takes a setting out of range. (1.4 Profiles, 2.2 Scheduler
settings, 3.2 Budget settings, 4.1 Removal settings, 6.7 Zone settings) -/
def Obligations.SettingsStayInRange : Prop :=
  ∀ s t : State, s.SettingsOk → step s = .next t → t.SettingsOk

/-- From every state with queue and settings in order in which each bay's code, origin, fault cause
and temperature are present as R1 gives, its flags and start-up mark fit its state, its timer is
one its state has, attention needs an enabled button and a carrier, attempts stay within 4, and a
bay without a carrier has profile 7 and no drive-bound indication, a step keeps all of it. (1.1
The bay record, 1.2 The ten bay states, 4.2 Preparing a bay, 5.3 Host indications) -/
def Obligations.BayRecordsStayInOrder : Prop :=
  ∀ s t : State, s.QueueOk → s.SettingsOk → s.BaysOk → step s = .next t → t.BaysOk

/-- From every state in which outcome, owner and current step are present as the engine state gives,
the pending set is empty outside a plan and holds only bays that are QUEUED, STARTING, BACKOFF or
STOPPING to return as PLAN, the lost count is at most 60, the wait timer runs exactly in a
RUNNING WAIT_TIME step, a WAIT_SETTLED step waits for some bay and an abort for a start, a step
gives such a state. (7.2 The engine, 7.3 Running a plan, 7.4 Pausing and aborting) -/
def Obligations.PlanStaysInOrder : Prop :=
  ∀ s t : State, s.PlanOk → step s = .next t → t.PlanOk

/-- From every state with settings in range in which each zone is BLIND exactly without a
temperature, its effective ceiling is 100 under OVERHEAT and else its ceiling, its reservation
duty the higher of that and the applied duty, duties at most 100 and boost at most 40, DEGRADED
set exactly with a FAILED fan, fans ABSENT exactly beyond the count with runs below 3, and each
sensor valid exactly with a reading (of a sensor without a zone the model's choice, log 33), a
step gives such a state. (6.1 Zone and fan state, 6.3 The control period, 6.4 Effective ceiling
and reservation duty, 6.5 Fans, log 33) -/
def Obligations.ZonesStayInOrder : Prop :=
  ∀ s t : State, s.SettingsOk → s.ZonesOk → step s = .next t → t.ZonesOk
end

