-- ==== Sys2Proof/Laws/State.lean ====
section
/-!
SUPPORT. The fields of the state after each of the updates the meanings are built from: one lemma for
each field an update leaves alone, and the lemmas of the fields it writes.
-/

namespace Sys2Proof.Machine

/-! ### setBay -/

@[simp] theorem setBay_pending (b : BayId) (y : Bay) (s : State) :
    (setBay b y s).pending = s.pending := rfl
@[simp] theorem setBay_resetHeld (b : BayId) (y : Bay) (s : State) :
    (setBay b y s).resetHeld = s.resetHeld := rfl
@[simp] theorem setBay_settings (b : BayId) (y : Bay) (s : State) :
    (setBay b y s).settings = s.settings := rfl
@[simp] theorem setBay_store (b : BayId) (y : Bay) (s : State) :
    (setBay b y s).store = s.store := rfl
@[simp] theorem setBay_storeMs (b : BayId) (y : Bay) (s : State) :
    (setBay b y s).storeMs = s.storeMs := rfl
@[simp] theorem setBay_memory (b : BayId) (y : Bay) (s : State) :
    (setBay b y s).memory = s.memory := rfl
@[simp] theorem setBay_saveResult (b : BayId) (y : Bay) (s : State) :
    (setBay b y s).saveResult = s.saveResult := rfl
@[simp] theorem setBay_queue (b : BayId) (y : Bay) (s : State) :
    (setBay b y s).queue = s.queue := rfl
@[simp] theorem setBay_gap (b : BayId) (y : Bay) (s : State) :
    (setBay b y s).gap = s.gap := rfl
@[simp] theorem setBay_supplies (b : BayId) (y : Bay) (s : State) :
    (setBay b y s).supplies = s.supplies := rfl
@[simp] theorem setBay_totals (b : BayId) (y : Bay) (s : State) :
    (setBay b y s).totals = s.totals := rfl
@[simp] theorem setBay_overBudget (b : BayId) (y : Bay) (s : State) :
    (setBay b y s).overBudget = s.overBudget := rfl
@[simp] theorem setBay_redundancyLost (b : BayId) (y : Bay) (s : State) :
    (setBay b y s).redundancyLost = s.redundancyLost := rfl
@[simp] theorem setBay_collapse (b : BayId) (y : Bay) (s : State) :
    (setBay b y s).collapse = s.collapse := rfl
@[simp] theorem setBay_shed (b : BayId) (y : Bay) (s : State) :
    (setBay b y s).shed = s.shed := rfl
@[simp] theorem setBay_zones (b : BayId) (y : Bay) (s : State) :
    (setBay b y s).zones = s.zones := rfl
@[simp] theorem setBay_fans (b : BayId) (y : Bay) (s : State) :
    (setBay b y s).fans = s.fans := rfl
@[simp] theorem setBay_sensors (b : BayId) (y : Bay) (s : State) :
    (setBay b y s).sensors = s.sensors := rfl
@[simp] theorem setBay_frame (b : BayId) (y : Bay) (s : State) :
    (setBay b y s).frame = s.frame := rfl
@[simp] theorem setBay_lightTest (b : BayId) (y : Bay) (s : State) :
    (setBay b y s).lightTest = s.lightTest := rfl
@[simp] theorem setBay_controlling (b : BayId) (y : Bay) (s : State) :
    (setBay b y s).controlling = s.controlling := rfl
@[simp] theorem setBay_ports (b : BayId) (y : Bay) (s : State) :
    (setBay b y s).ports = s.ports := rfl
@[simp] theorem setBay_plan (b : BayId) (y : Bay) (s : State) :
    (setBay b y s).plan = s.plan := rfl

/-! ### updPort -/

@[simp] theorem updPort_pending (p : Port) (f : PortState → PortState) (s : State) :
    (s.updPort p f).pending = s.pending := rfl
@[simp] theorem updPort_resetHeld (p : Port) (f : PortState → PortState) (s : State) :
    (s.updPort p f).resetHeld = s.resetHeld := rfl
@[simp] theorem updPort_settings (p : Port) (f : PortState → PortState) (s : State) :
    (s.updPort p f).settings = s.settings := rfl
@[simp] theorem updPort_store (p : Port) (f : PortState → PortState) (s : State) :
    (s.updPort p f).store = s.store := rfl
@[simp] theorem updPort_storeMs (p : Port) (f : PortState → PortState) (s : State) :
    (s.updPort p f).storeMs = s.storeMs := rfl
@[simp] theorem updPort_memory (p : Port) (f : PortState → PortState) (s : State) :
    (s.updPort p f).memory = s.memory := rfl
@[simp] theorem updPort_saveResult (p : Port) (f : PortState → PortState) (s : State) :
    (s.updPort p f).saveResult = s.saveResult := rfl
@[simp] theorem updPort_bays (p : Port) (f : PortState → PortState) (s : State) :
    (s.updPort p f).bays = s.bays := rfl
@[simp] theorem updPort_queue (p : Port) (f : PortState → PortState) (s : State) :
    (s.updPort p f).queue = s.queue := rfl
@[simp] theorem updPort_gap (p : Port) (f : PortState → PortState) (s : State) :
    (s.updPort p f).gap = s.gap := rfl
@[simp] theorem updPort_supplies (p : Port) (f : PortState → PortState) (s : State) :
    (s.updPort p f).supplies = s.supplies := rfl
@[simp] theorem updPort_totals (p : Port) (f : PortState → PortState) (s : State) :
    (s.updPort p f).totals = s.totals := rfl
@[simp] theorem updPort_overBudget (p : Port) (f : PortState → PortState) (s : State) :
    (s.updPort p f).overBudget = s.overBudget := rfl
@[simp] theorem updPort_redundancyLost (p : Port) (f : PortState → PortState) (s : State) :
    (s.updPort p f).redundancyLost = s.redundancyLost := rfl
@[simp] theorem updPort_collapse (p : Port) (f : PortState → PortState) (s : State) :
    (s.updPort p f).collapse = s.collapse := rfl
@[simp] theorem updPort_shed (p : Port) (f : PortState → PortState) (s : State) :
    (s.updPort p f).shed = s.shed := rfl
@[simp] theorem updPort_zones (p : Port) (f : PortState → PortState) (s : State) :
    (s.updPort p f).zones = s.zones := rfl
@[simp] theorem updPort_fans (p : Port) (f : PortState → PortState) (s : State) :
    (s.updPort p f).fans = s.fans := rfl
@[simp] theorem updPort_sensors (p : Port) (f : PortState → PortState) (s : State) :
    (s.updPort p f).sensors = s.sensors := rfl
@[simp] theorem updPort_frame (p : Port) (f : PortState → PortState) (s : State) :
    (s.updPort p f).frame = s.frame := rfl
@[simp] theorem updPort_lightTest (p : Port) (f : PortState → PortState) (s : State) :
    (s.updPort p f).lightTest = s.lightTest := rfl
@[simp] theorem updPort_controlling (p : Port) (f : PortState → PortState) (s : State) :
    (s.updPort p f).controlling = s.controlling := rfl
@[simp] theorem updPort_plan (p : Port) (f : PortState → PortState) (s : State) :
    (s.updPort p f).plan = s.plan := rfl

/-! ### post -/

@[simp] theorem post_pending (o : Obj) (s : State) :
    (post o s).pending = s.pending := rfl
@[simp] theorem post_resetHeld (o : Obj) (s : State) :
    (post o s).resetHeld = s.resetHeld := rfl
@[simp] theorem post_settings (o : Obj) (s : State) :
    (post o s).settings = s.settings := rfl
@[simp] theorem post_store (o : Obj) (s : State) :
    (post o s).store = s.store := rfl
@[simp] theorem post_storeMs (o : Obj) (s : State) :
    (post o s).storeMs = s.storeMs := rfl
@[simp] theorem post_memory (o : Obj) (s : State) :
    (post o s).memory = s.memory := rfl
@[simp] theorem post_saveResult (o : Obj) (s : State) :
    (post o s).saveResult = s.saveResult := rfl
@[simp] theorem post_bays (o : Obj) (s : State) :
    (post o s).bays = s.bays := rfl
@[simp] theorem post_queue (o : Obj) (s : State) :
    (post o s).queue = s.queue := rfl
@[simp] theorem post_gap (o : Obj) (s : State) :
    (post o s).gap = s.gap := rfl
@[simp] theorem post_supplies (o : Obj) (s : State) :
    (post o s).supplies = s.supplies := rfl
@[simp] theorem post_totals (o : Obj) (s : State) :
    (post o s).totals = s.totals := rfl
@[simp] theorem post_overBudget (o : Obj) (s : State) :
    (post o s).overBudget = s.overBudget := rfl
@[simp] theorem post_redundancyLost (o : Obj) (s : State) :
    (post o s).redundancyLost = s.redundancyLost := rfl
@[simp] theorem post_collapse (o : Obj) (s : State) :
    (post o s).collapse = s.collapse := rfl
@[simp] theorem post_shed (o : Obj) (s : State) :
    (post o s).shed = s.shed := rfl
@[simp] theorem post_zones (o : Obj) (s : State) :
    (post o s).zones = s.zones := rfl
@[simp] theorem post_fans (o : Obj) (s : State) :
    (post o s).fans = s.fans := rfl
@[simp] theorem post_sensors (o : Obj) (s : State) :
    (post o s).sensors = s.sensors := rfl
@[simp] theorem post_frame (o : Obj) (s : State) :
    (post o s).frame = s.frame := rfl
@[simp] theorem post_lightTest (o : Obj) (s : State) :
    (post o s).lightTest = s.lightTest := rfl
@[simp] theorem post_controlling (o : Obj) (s : State) :
    (post o s).controlling = s.controlling := rfl
@[simp] theorem post_plan (o : Obj) (s : State) :
    (post o s).plan = s.plan := rfl

/-! ### postTo -/

@[simp] theorem postTo_pending (p : Port) (o : Obj) (s : State) :
    (postTo p o s).pending = s.pending := rfl
@[simp] theorem postTo_resetHeld (p : Port) (o : Obj) (s : State) :
    (postTo p o s).resetHeld = s.resetHeld := rfl
@[simp] theorem postTo_settings (p : Port) (o : Obj) (s : State) :
    (postTo p o s).settings = s.settings := rfl
@[simp] theorem postTo_store (p : Port) (o : Obj) (s : State) :
    (postTo p o s).store = s.store := rfl
@[simp] theorem postTo_storeMs (p : Port) (o : Obj) (s : State) :
    (postTo p o s).storeMs = s.storeMs := rfl
@[simp] theorem postTo_memory (p : Port) (o : Obj) (s : State) :
    (postTo p o s).memory = s.memory := rfl
@[simp] theorem postTo_saveResult (p : Port) (o : Obj) (s : State) :
    (postTo p o s).saveResult = s.saveResult := rfl
@[simp] theorem postTo_bays (p : Port) (o : Obj) (s : State) :
    (postTo p o s).bays = s.bays := rfl
@[simp] theorem postTo_queue (p : Port) (o : Obj) (s : State) :
    (postTo p o s).queue = s.queue := rfl
@[simp] theorem postTo_gap (p : Port) (o : Obj) (s : State) :
    (postTo p o s).gap = s.gap := rfl
@[simp] theorem postTo_supplies (p : Port) (o : Obj) (s : State) :
    (postTo p o s).supplies = s.supplies := rfl
@[simp] theorem postTo_totals (p : Port) (o : Obj) (s : State) :
    (postTo p o s).totals = s.totals := rfl
@[simp] theorem postTo_overBudget (p : Port) (o : Obj) (s : State) :
    (postTo p o s).overBudget = s.overBudget := rfl
@[simp] theorem postTo_redundancyLost (p : Port) (o : Obj) (s : State) :
    (postTo p o s).redundancyLost = s.redundancyLost := rfl
@[simp] theorem postTo_collapse (p : Port) (o : Obj) (s : State) :
    (postTo p o s).collapse = s.collapse := rfl
@[simp] theorem postTo_shed (p : Port) (o : Obj) (s : State) :
    (postTo p o s).shed = s.shed := rfl
@[simp] theorem postTo_zones (p : Port) (o : Obj) (s : State) :
    (postTo p o s).zones = s.zones := rfl
@[simp] theorem postTo_fans (p : Port) (o : Obj) (s : State) :
    (postTo p o s).fans = s.fans := rfl
@[simp] theorem postTo_sensors (p : Port) (o : Obj) (s : State) :
    (postTo p o s).sensors = s.sensors := rfl
@[simp] theorem postTo_frame (p : Port) (o : Obj) (s : State) :
    (postTo p o s).frame = s.frame := rfl
@[simp] theorem postTo_lightTest (p : Port) (o : Obj) (s : State) :
    (postTo p o s).lightTest = s.lightTest := rfl
@[simp] theorem postTo_controlling (p : Port) (o : Obj) (s : State) :
    (postTo p o s).controlling = s.controlling := rfl
@[simp] theorem postTo_plan (p : Port) (o : Obj) (s : State) :
    (postTo p o s).plan = s.plan := rfl

/-! ### hear -/

@[simp] theorem hear_pending (p : Port) (s : State) :
    (hear p s).pending = s.pending := rfl
@[simp] theorem hear_resetHeld (p : Port) (s : State) :
    (hear p s).resetHeld = s.resetHeld := rfl
@[simp] theorem hear_settings (p : Port) (s : State) :
    (hear p s).settings = s.settings := rfl
@[simp] theorem hear_store (p : Port) (s : State) :
    (hear p s).store = s.store := rfl
@[simp] theorem hear_storeMs (p : Port) (s : State) :
    (hear p s).storeMs = s.storeMs := rfl
@[simp] theorem hear_memory (p : Port) (s : State) :
    (hear p s).memory = s.memory := rfl
@[simp] theorem hear_saveResult (p : Port) (s : State) :
    (hear p s).saveResult = s.saveResult := rfl
@[simp] theorem hear_bays (p : Port) (s : State) :
    (hear p s).bays = s.bays := rfl
@[simp] theorem hear_queue (p : Port) (s : State) :
    (hear p s).queue = s.queue := rfl
@[simp] theorem hear_gap (p : Port) (s : State) :
    (hear p s).gap = s.gap := rfl
@[simp] theorem hear_supplies (p : Port) (s : State) :
    (hear p s).supplies = s.supplies := rfl
@[simp] theorem hear_totals (p : Port) (s : State) :
    (hear p s).totals = s.totals := rfl
@[simp] theorem hear_overBudget (p : Port) (s : State) :
    (hear p s).overBudget = s.overBudget := rfl
@[simp] theorem hear_redundancyLost (p : Port) (s : State) :
    (hear p s).redundancyLost = s.redundancyLost := rfl
@[simp] theorem hear_collapse (p : Port) (s : State) :
    (hear p s).collapse = s.collapse := rfl
@[simp] theorem hear_shed (p : Port) (s : State) :
    (hear p s).shed = s.shed := rfl
@[simp] theorem hear_zones (p : Port) (s : State) :
    (hear p s).zones = s.zones := rfl
@[simp] theorem hear_fans (p : Port) (s : State) :
    (hear p s).fans = s.fans := rfl
@[simp] theorem hear_sensors (p : Port) (s : State) :
    (hear p s).sensors = s.sensors := rfl
@[simp] theorem hear_frame (p : Port) (s : State) :
    (hear p s).frame = s.frame := rfl
@[simp] theorem hear_lightTest (p : Port) (s : State) :
    (hear p s).lightTest = s.lightTest := rfl
@[simp] theorem hear_controlling (p : Port) (s : State) :
    (hear p s).controlling = s.controlling := rfl
@[simp] theorem hear_plan (p : Port) (s : State) :
    (hear p s).plan = s.plan := rfl

/-! ### markOverrun -/

@[simp] theorem markOverrun_pending (p : Port) (s : State) :
    (markOverrun p s).pending = s.pending := rfl
@[simp] theorem markOverrun_resetHeld (p : Port) (s : State) :
    (markOverrun p s).resetHeld = s.resetHeld := rfl
@[simp] theorem markOverrun_settings (p : Port) (s : State) :
    (markOverrun p s).settings = s.settings := rfl
@[simp] theorem markOverrun_store (p : Port) (s : State) :
    (markOverrun p s).store = s.store := rfl
@[simp] theorem markOverrun_storeMs (p : Port) (s : State) :
    (markOverrun p s).storeMs = s.storeMs := rfl
@[simp] theorem markOverrun_memory (p : Port) (s : State) :
    (markOverrun p s).memory = s.memory := rfl
@[simp] theorem markOverrun_saveResult (p : Port) (s : State) :
    (markOverrun p s).saveResult = s.saveResult := rfl
@[simp] theorem markOverrun_bays (p : Port) (s : State) :
    (markOverrun p s).bays = s.bays := rfl
@[simp] theorem markOverrun_queue (p : Port) (s : State) :
    (markOverrun p s).queue = s.queue := rfl
@[simp] theorem markOverrun_gap (p : Port) (s : State) :
    (markOverrun p s).gap = s.gap := rfl
@[simp] theorem markOverrun_supplies (p : Port) (s : State) :
    (markOverrun p s).supplies = s.supplies := rfl
@[simp] theorem markOverrun_totals (p : Port) (s : State) :
    (markOverrun p s).totals = s.totals := rfl
@[simp] theorem markOverrun_overBudget (p : Port) (s : State) :
    (markOverrun p s).overBudget = s.overBudget := rfl
@[simp] theorem markOverrun_redundancyLost (p : Port) (s : State) :
    (markOverrun p s).redundancyLost = s.redundancyLost := rfl
@[simp] theorem markOverrun_collapse (p : Port) (s : State) :
    (markOverrun p s).collapse = s.collapse := rfl
@[simp] theorem markOverrun_shed (p : Port) (s : State) :
    (markOverrun p s).shed = s.shed := rfl
@[simp] theorem markOverrun_zones (p : Port) (s : State) :
    (markOverrun p s).zones = s.zones := rfl
@[simp] theorem markOverrun_fans (p : Port) (s : State) :
    (markOverrun p s).fans = s.fans := rfl
@[simp] theorem markOverrun_sensors (p : Port) (s : State) :
    (markOverrun p s).sensors = s.sensors := rfl
@[simp] theorem markOverrun_frame (p : Port) (s : State) :
    (markOverrun p s).frame = s.frame := rfl
@[simp] theorem markOverrun_lightTest (p : Port) (s : State) :
    (markOverrun p s).lightTest = s.lightTest := rfl
@[simp] theorem markOverrun_controlling (p : Port) (s : State) :
    (markOverrun p s).controlling = s.controlling := rfl
@[simp] theorem markOverrun_plan (p : Port) (s : State) :
    (markOverrun p s).plan = s.plan := rfl

/-! ### dequeue -/

@[simp] theorem dequeue_pending (b : BayId) (s : State) :
    (dequeue b s).pending = s.pending := rfl
@[simp] theorem dequeue_resetHeld (b : BayId) (s : State) :
    (dequeue b s).resetHeld = s.resetHeld := rfl
@[simp] theorem dequeue_settings (b : BayId) (s : State) :
    (dequeue b s).settings = s.settings := rfl
@[simp] theorem dequeue_store (b : BayId) (s : State) :
    (dequeue b s).store = s.store := rfl
@[simp] theorem dequeue_storeMs (b : BayId) (s : State) :
    (dequeue b s).storeMs = s.storeMs := rfl
@[simp] theorem dequeue_memory (b : BayId) (s : State) :
    (dequeue b s).memory = s.memory := rfl
@[simp] theorem dequeue_saveResult (b : BayId) (s : State) :
    (dequeue b s).saveResult = s.saveResult := rfl
@[simp] theorem dequeue_bays (b : BayId) (s : State) :
    (dequeue b s).bays = s.bays := rfl
@[simp] theorem dequeue_gap (b : BayId) (s : State) :
    (dequeue b s).gap = s.gap := rfl
@[simp] theorem dequeue_supplies (b : BayId) (s : State) :
    (dequeue b s).supplies = s.supplies := rfl
@[simp] theorem dequeue_totals (b : BayId) (s : State) :
    (dequeue b s).totals = s.totals := rfl
@[simp] theorem dequeue_overBudget (b : BayId) (s : State) :
    (dequeue b s).overBudget = s.overBudget := rfl
@[simp] theorem dequeue_redundancyLost (b : BayId) (s : State) :
    (dequeue b s).redundancyLost = s.redundancyLost := rfl
@[simp] theorem dequeue_collapse (b : BayId) (s : State) :
    (dequeue b s).collapse = s.collapse := rfl
@[simp] theorem dequeue_shed (b : BayId) (s : State) :
    (dequeue b s).shed = s.shed := rfl
@[simp] theorem dequeue_zones (b : BayId) (s : State) :
    (dequeue b s).zones = s.zones := rfl
@[simp] theorem dequeue_fans (b : BayId) (s : State) :
    (dequeue b s).fans = s.fans := rfl
@[simp] theorem dequeue_sensors (b : BayId) (s : State) :
    (dequeue b s).sensors = s.sensors := rfl
@[simp] theorem dequeue_frame (b : BayId) (s : State) :
    (dequeue b s).frame = s.frame := rfl
@[simp] theorem dequeue_lightTest (b : BayId) (s : State) :
    (dequeue b s).lightTest = s.lightTest := rfl
@[simp] theorem dequeue_controlling (b : BayId) (s : State) :
    (dequeue b s).controlling = s.controlling := rfl
@[simp] theorem dequeue_ports (b : BayId) (s : State) :
    (dequeue b s).ports = s.ports := rfl
@[simp] theorem dequeue_plan (b : BayId) (s : State) :
    (dequeue b s).plan = s.plan := rfl

/-! ### setZone -/

@[simp] theorem setZone_pending (z : ZoneId) (x : Zone) (s : State) :
    (setZone z x s).pending = s.pending := rfl
@[simp] theorem setZone_resetHeld (z : ZoneId) (x : Zone) (s : State) :
    (setZone z x s).resetHeld = s.resetHeld := rfl
@[simp] theorem setZone_settings (z : ZoneId) (x : Zone) (s : State) :
    (setZone z x s).settings = s.settings := rfl
@[simp] theorem setZone_store (z : ZoneId) (x : Zone) (s : State) :
    (setZone z x s).store = s.store := rfl
@[simp] theorem setZone_storeMs (z : ZoneId) (x : Zone) (s : State) :
    (setZone z x s).storeMs = s.storeMs := rfl
@[simp] theorem setZone_memory (z : ZoneId) (x : Zone) (s : State) :
    (setZone z x s).memory = s.memory := rfl
@[simp] theorem setZone_saveResult (z : ZoneId) (x : Zone) (s : State) :
    (setZone z x s).saveResult = s.saveResult := rfl
@[simp] theorem setZone_bays (z : ZoneId) (x : Zone) (s : State) :
    (setZone z x s).bays = s.bays := rfl
@[simp] theorem setZone_queue (z : ZoneId) (x : Zone) (s : State) :
    (setZone z x s).queue = s.queue := rfl
@[simp] theorem setZone_gap (z : ZoneId) (x : Zone) (s : State) :
    (setZone z x s).gap = s.gap := rfl
@[simp] theorem setZone_supplies (z : ZoneId) (x : Zone) (s : State) :
    (setZone z x s).supplies = s.supplies := rfl
@[simp] theorem setZone_totals (z : ZoneId) (x : Zone) (s : State) :
    (setZone z x s).totals = s.totals := rfl
@[simp] theorem setZone_overBudget (z : ZoneId) (x : Zone) (s : State) :
    (setZone z x s).overBudget = s.overBudget := rfl
@[simp] theorem setZone_redundancyLost (z : ZoneId) (x : Zone) (s : State) :
    (setZone z x s).redundancyLost = s.redundancyLost := rfl
@[simp] theorem setZone_collapse (z : ZoneId) (x : Zone) (s : State) :
    (setZone z x s).collapse = s.collapse := rfl
@[simp] theorem setZone_shed (z : ZoneId) (x : Zone) (s : State) :
    (setZone z x s).shed = s.shed := rfl
@[simp] theorem setZone_fans (z : ZoneId) (x : Zone) (s : State) :
    (setZone z x s).fans = s.fans := rfl
@[simp] theorem setZone_sensors (z : ZoneId) (x : Zone) (s : State) :
    (setZone z x s).sensors = s.sensors := rfl
@[simp] theorem setZone_frame (z : ZoneId) (x : Zone) (s : State) :
    (setZone z x s).frame = s.frame := rfl
@[simp] theorem setZone_lightTest (z : ZoneId) (x : Zone) (s : State) :
    (setZone z x s).lightTest = s.lightTest := rfl
@[simp] theorem setZone_controlling (z : ZoneId) (x : Zone) (s : State) :
    (setZone z x s).controlling = s.controlling := rfl
@[simp] theorem setZone_ports (z : ZoneId) (x : Zone) (s : State) :
    (setZone z x s).ports = s.ports := rfl
@[simp] theorem setZone_plan (z : ZoneId) (x : Zone) (s : State) :
    (setZone z x s).plan = s.plan := rfl

/-! ### updFans -/

@[simp] theorem updFans_pending (z : ZoneId) (g : Fin 4 → Fan → Fan) (s : State) :
    (updFans z g s).pending = s.pending := rfl
@[simp] theorem updFans_resetHeld (z : ZoneId) (g : Fin 4 → Fan → Fan) (s : State) :
    (updFans z g s).resetHeld = s.resetHeld := rfl
@[simp] theorem updFans_settings (z : ZoneId) (g : Fin 4 → Fan → Fan) (s : State) :
    (updFans z g s).settings = s.settings := rfl
@[simp] theorem updFans_store (z : ZoneId) (g : Fin 4 → Fan → Fan) (s : State) :
    (updFans z g s).store = s.store := rfl
@[simp] theorem updFans_storeMs (z : ZoneId) (g : Fin 4 → Fan → Fan) (s : State) :
    (updFans z g s).storeMs = s.storeMs := rfl
@[simp] theorem updFans_memory (z : ZoneId) (g : Fin 4 → Fan → Fan) (s : State) :
    (updFans z g s).memory = s.memory := rfl
@[simp] theorem updFans_saveResult (z : ZoneId) (g : Fin 4 → Fan → Fan) (s : State) :
    (updFans z g s).saveResult = s.saveResult := rfl
@[simp] theorem updFans_bays (z : ZoneId) (g : Fin 4 → Fan → Fan) (s : State) :
    (updFans z g s).bays = s.bays := rfl
@[simp] theorem updFans_queue (z : ZoneId) (g : Fin 4 → Fan → Fan) (s : State) :
    (updFans z g s).queue = s.queue := rfl
@[simp] theorem updFans_gap (z : ZoneId) (g : Fin 4 → Fan → Fan) (s : State) :
    (updFans z g s).gap = s.gap := rfl
@[simp] theorem updFans_supplies (z : ZoneId) (g : Fin 4 → Fan → Fan) (s : State) :
    (updFans z g s).supplies = s.supplies := rfl
@[simp] theorem updFans_totals (z : ZoneId) (g : Fin 4 → Fan → Fan) (s : State) :
    (updFans z g s).totals = s.totals := rfl
@[simp] theorem updFans_overBudget (z : ZoneId) (g : Fin 4 → Fan → Fan) (s : State) :
    (updFans z g s).overBudget = s.overBudget := rfl
@[simp] theorem updFans_redundancyLost (z : ZoneId) (g : Fin 4 → Fan → Fan) (s : State) :
    (updFans z g s).redundancyLost = s.redundancyLost := rfl
@[simp] theorem updFans_collapse (z : ZoneId) (g : Fin 4 → Fan → Fan) (s : State) :
    (updFans z g s).collapse = s.collapse := rfl
@[simp] theorem updFans_shed (z : ZoneId) (g : Fin 4 → Fan → Fan) (s : State) :
    (updFans z g s).shed = s.shed := rfl
@[simp] theorem updFans_zones (z : ZoneId) (g : Fin 4 → Fan → Fan) (s : State) :
    (updFans z g s).zones = s.zones := rfl
@[simp] theorem updFans_sensors (z : ZoneId) (g : Fin 4 → Fan → Fan) (s : State) :
    (updFans z g s).sensors = s.sensors := rfl
@[simp] theorem updFans_frame (z : ZoneId) (g : Fin 4 → Fan → Fan) (s : State) :
    (updFans z g s).frame = s.frame := rfl
@[simp] theorem updFans_lightTest (z : ZoneId) (g : Fin 4 → Fan → Fan) (s : State) :
    (updFans z g s).lightTest = s.lightTest := rfl
@[simp] theorem updFans_controlling (z : ZoneId) (g : Fin 4 → Fan → Fan) (s : State) :
    (updFans z g s).controlling = s.controlling := rfl
@[simp] theorem updFans_ports (z : ZoneId) (g : Fin 4 → Fan → Fan) (s : State) :
    (updFans z g s).ports = s.ports := rfl
@[simp] theorem updFans_plan (z : ZoneId) (g : Fin 4 → Fan → Fan) (s : State) :
    (updFans z g s).plan = s.plan := rfl

/-! ### setPlan -/

@[simp] theorem setPlan_pending (pl : Plan) (s : State) :
    (setPlan pl s).pending = s.pending := rfl
@[simp] theorem setPlan_resetHeld (pl : Plan) (s : State) :
    (setPlan pl s).resetHeld = s.resetHeld := rfl
@[simp] theorem setPlan_settings (pl : Plan) (s : State) :
    (setPlan pl s).settings = s.settings := rfl
@[simp] theorem setPlan_store (pl : Plan) (s : State) :
    (setPlan pl s).store = s.store := rfl
@[simp] theorem setPlan_storeMs (pl : Plan) (s : State) :
    (setPlan pl s).storeMs = s.storeMs := rfl
@[simp] theorem setPlan_memory (pl : Plan) (s : State) :
    (setPlan pl s).memory = s.memory := rfl
@[simp] theorem setPlan_saveResult (pl : Plan) (s : State) :
    (setPlan pl s).saveResult = s.saveResult := rfl
@[simp] theorem setPlan_bays (pl : Plan) (s : State) :
    (setPlan pl s).bays = s.bays := rfl
@[simp] theorem setPlan_queue (pl : Plan) (s : State) :
    (setPlan pl s).queue = s.queue := rfl
@[simp] theorem setPlan_gap (pl : Plan) (s : State) :
    (setPlan pl s).gap = s.gap := rfl
@[simp] theorem setPlan_supplies (pl : Plan) (s : State) :
    (setPlan pl s).supplies = s.supplies := rfl
@[simp] theorem setPlan_totals (pl : Plan) (s : State) :
    (setPlan pl s).totals = s.totals := rfl
@[simp] theorem setPlan_overBudget (pl : Plan) (s : State) :
    (setPlan pl s).overBudget = s.overBudget := rfl
@[simp] theorem setPlan_redundancyLost (pl : Plan) (s : State) :
    (setPlan pl s).redundancyLost = s.redundancyLost := rfl
@[simp] theorem setPlan_collapse (pl : Plan) (s : State) :
    (setPlan pl s).collapse = s.collapse := rfl
@[simp] theorem setPlan_shed (pl : Plan) (s : State) :
    (setPlan pl s).shed = s.shed := rfl
@[simp] theorem setPlan_zones (pl : Plan) (s : State) :
    (setPlan pl s).zones = s.zones := rfl
@[simp] theorem setPlan_fans (pl : Plan) (s : State) :
    (setPlan pl s).fans = s.fans := rfl
@[simp] theorem setPlan_sensors (pl : Plan) (s : State) :
    (setPlan pl s).sensors = s.sensors := rfl
@[simp] theorem setPlan_frame (pl : Plan) (s : State) :
    (setPlan pl s).frame = s.frame := rfl
@[simp] theorem setPlan_lightTest (pl : Plan) (s : State) :
    (setPlan pl s).lightTest = s.lightTest := rfl
@[simp] theorem setPlan_controlling (pl : Plan) (s : State) :
    (setPlan pl s).controlling = s.controlling := rfl
@[simp] theorem setPlan_ports (pl : Plan) (s : State) :
    (setPlan pl s).ports = s.ports := rfl

/-! ### setSupply -/

@[simp] theorem setSupply_pending (i : SupplyId) (x : Supply) (s : State) :
    (setSupply i x s).pending = s.pending := rfl
@[simp] theorem setSupply_resetHeld (i : SupplyId) (x : Supply) (s : State) :
    (setSupply i x s).resetHeld = s.resetHeld := rfl
@[simp] theorem setSupply_settings (i : SupplyId) (x : Supply) (s : State) :
    (setSupply i x s).settings = s.settings := rfl
@[simp] theorem setSupply_store (i : SupplyId) (x : Supply) (s : State) :
    (setSupply i x s).store = s.store := rfl
@[simp] theorem setSupply_storeMs (i : SupplyId) (x : Supply) (s : State) :
    (setSupply i x s).storeMs = s.storeMs := rfl
@[simp] theorem setSupply_memory (i : SupplyId) (x : Supply) (s : State) :
    (setSupply i x s).memory = s.memory := rfl
@[simp] theorem setSupply_saveResult (i : SupplyId) (x : Supply) (s : State) :
    (setSupply i x s).saveResult = s.saveResult := rfl
@[simp] theorem setSupply_bays (i : SupplyId) (x : Supply) (s : State) :
    (setSupply i x s).bays = s.bays := rfl
@[simp] theorem setSupply_queue (i : SupplyId) (x : Supply) (s : State) :
    (setSupply i x s).queue = s.queue := rfl
@[simp] theorem setSupply_gap (i : SupplyId) (x : Supply) (s : State) :
    (setSupply i x s).gap = s.gap := rfl
@[simp] theorem setSupply_totals (i : SupplyId) (x : Supply) (s : State) :
    (setSupply i x s).totals = s.totals := rfl
@[simp] theorem setSupply_overBudget (i : SupplyId) (x : Supply) (s : State) :
    (setSupply i x s).overBudget = s.overBudget := rfl
@[simp] theorem setSupply_redundancyLost (i : SupplyId) (x : Supply) (s : State) :
    (setSupply i x s).redundancyLost = s.redundancyLost := rfl
@[simp] theorem setSupply_collapse (i : SupplyId) (x : Supply) (s : State) :
    (setSupply i x s).collapse = s.collapse := rfl
@[simp] theorem setSupply_shed (i : SupplyId) (x : Supply) (s : State) :
    (setSupply i x s).shed = s.shed := rfl
@[simp] theorem setSupply_zones (i : SupplyId) (x : Supply) (s : State) :
    (setSupply i x s).zones = s.zones := rfl
@[simp] theorem setSupply_fans (i : SupplyId) (x : Supply) (s : State) :
    (setSupply i x s).fans = s.fans := rfl
@[simp] theorem setSupply_sensors (i : SupplyId) (x : Supply) (s : State) :
    (setSupply i x s).sensors = s.sensors := rfl
@[simp] theorem setSupply_frame (i : SupplyId) (x : Supply) (s : State) :
    (setSupply i x s).frame = s.frame := rfl
@[simp] theorem setSupply_lightTest (i : SupplyId) (x : Supply) (s : State) :
    (setSupply i x s).lightTest = s.lightTest := rfl
@[simp] theorem setSupply_controlling (i : SupplyId) (x : Supply) (s : State) :
    (setSupply i x s).controlling = s.controlling := rfl
@[simp] theorem setSupply_ports (i : SupplyId) (x : Supply) (s : State) :
    (setSupply i x s).ports = s.ports := rfl
@[simp] theorem setSupply_plan (i : SupplyId) (x : Supply) (s : State) :
    (setSupply i x s).plan = s.plan := rfl

/-! ### postIf -/

@[simp] theorem postIf_pending (c : Bool) (o : Obj) (s : State) :
    (postIf c o s).pending = s.pending := by cases c <;> rfl
@[simp] theorem postIf_resetHeld (c : Bool) (o : Obj) (s : State) :
    (postIf c o s).resetHeld = s.resetHeld := by cases c <;> rfl
@[simp] theorem postIf_settings (c : Bool) (o : Obj) (s : State) :
    (postIf c o s).settings = s.settings := by cases c <;> rfl
@[simp] theorem postIf_store (c : Bool) (o : Obj) (s : State) :
    (postIf c o s).store = s.store := by cases c <;> rfl
@[simp] theorem postIf_storeMs (c : Bool) (o : Obj) (s : State) :
    (postIf c o s).storeMs = s.storeMs := by cases c <;> rfl
@[simp] theorem postIf_memory (c : Bool) (o : Obj) (s : State) :
    (postIf c o s).memory = s.memory := by cases c <;> rfl
@[simp] theorem postIf_saveResult (c : Bool) (o : Obj) (s : State) :
    (postIf c o s).saveResult = s.saveResult := by cases c <;> rfl
@[simp] theorem postIf_bays (c : Bool) (o : Obj) (s : State) :
    (postIf c o s).bays = s.bays := by cases c <;> rfl
@[simp] theorem postIf_queue (c : Bool) (o : Obj) (s : State) :
    (postIf c o s).queue = s.queue := by cases c <;> rfl
@[simp] theorem postIf_gap (c : Bool) (o : Obj) (s : State) :
    (postIf c o s).gap = s.gap := by cases c <;> rfl
@[simp] theorem postIf_supplies (c : Bool) (o : Obj) (s : State) :
    (postIf c o s).supplies = s.supplies := by cases c <;> rfl
@[simp] theorem postIf_totals (c : Bool) (o : Obj) (s : State) :
    (postIf c o s).totals = s.totals := by cases c <;> rfl
@[simp] theorem postIf_overBudget (c : Bool) (o : Obj) (s : State) :
    (postIf c o s).overBudget = s.overBudget := by cases c <;> rfl
@[simp] theorem postIf_redundancyLost (c : Bool) (o : Obj) (s : State) :
    (postIf c o s).redundancyLost = s.redundancyLost := by cases c <;> rfl
@[simp] theorem postIf_collapse (c : Bool) (o : Obj) (s : State) :
    (postIf c o s).collapse = s.collapse := by cases c <;> rfl
@[simp] theorem postIf_shed (c : Bool) (o : Obj) (s : State) :
    (postIf c o s).shed = s.shed := by cases c <;> rfl
@[simp] theorem postIf_zones (c : Bool) (o : Obj) (s : State) :
    (postIf c o s).zones = s.zones := by cases c <;> rfl
@[simp] theorem postIf_fans (c : Bool) (o : Obj) (s : State) :
    (postIf c o s).fans = s.fans := by cases c <;> rfl
@[simp] theorem postIf_sensors (c : Bool) (o : Obj) (s : State) :
    (postIf c o s).sensors = s.sensors := by cases c <;> rfl
@[simp] theorem postIf_frame (c : Bool) (o : Obj) (s : State) :
    (postIf c o s).frame = s.frame := by cases c <;> rfl
@[simp] theorem postIf_lightTest (c : Bool) (o : Obj) (s : State) :
    (postIf c o s).lightTest = s.lightTest := by cases c <;> rfl
@[simp] theorem postIf_controlling (c : Bool) (o : Obj) (s : State) :
    (postIf c o s).controlling = s.controlling := by cases c <;> rfl
@[simp] theorem postIf_plan (c : Bool) (o : Obj) (s : State) :
    (postIf c o s).plan = s.plan := by cases c <;> rfl

/-! ### The written fields -/

@[simp] theorem setPlan_plan (pl : Plan) (s : State) : (setPlan pl s).plan = pl := rfl
@[simp] theorem dequeue_queue (b : BayId) (s : State) :
    (dequeue b s).queue = removeEntry b s.queue := rfl
@[simp] theorem postIf_true (o : Obj) (s : State) : postIf true o s = post o s := rfl
@[simp] theorem postIf_false (o : Obj) (s : State) : postIf false o s = s := rfl

/-! ### Values kept for each port -/

@[simp] theorem get_set_same {α : Type} (v : PerPort α) (p : Port) (x : α) :
    (v.set p x).get p = x := by cases p <;> rfl
theorem get_set_other {α : Type} (v : PerPort α) {p q : Port} (h : q ≠ p) (x : α) :
    (v.set p x).get q = v.get q := by cases p <;> cases q <;> first | rfl | exact absurd rfl h
@[simp] theorem get_set_peer {α : Type} (v : PerPort α) (p : Port) (x : α) :
    (v.set p x).get p.peer = v.get p.peer := by cases p <;> rfl
@[simp] theorem get_map {α β : Type} (v : PerPort α) (p : Port) (f : α → β) :
    (v.map f).get p = f (v.get p) := by cases p <;> rfl

/-! ### Ports -/

@[simp] theorem port_updPort_same (p : Port) (f : PortState → PortState) (s : State) :
    (s.updPort p f).port p = f (s.port p) := get_set_same _ _ _
theorem port_updPort_other {p q : Port} (h : q ≠ p) (f : PortState → PortState) (s : State) :
    (s.updPort p f).port q = s.port q := get_set_other _ h _
@[simp] theorem port_updPort_peer (p : Port) (f : PortState → PortState) (s : State) :
    (s.updPort p f).port p.peer = s.port p.peer := get_set_peer _ _ _
@[simp] theorem port_post (p : Port) (o : Obj) (s : State) :
    (post o s).port p = (s.port p).post o := get_map _ _ _
@[simp] theorem port_setBay (p : Port) (b : BayId) (y : Bay) (s : State) :
    (setBay b y s).port p = s.port p := rfl
@[simp] theorem port_setPlan (p : Port) (pl : Plan) (s : State) :
    (setPlan pl s).port p = s.port p := rfl

/-! ### Bays -/

@[simp] theorem bay_setBay_same (b : BayId) (y : Bay) (s : State) : (setBay b y s).bay b = y := by
  simp [State.bay, setBay, Vector.get_eq_getElem]
theorem bay_setBay_ne {b c : BayId} (h : c ≠ b) (y : Bay) (s : State) :
    (setBay b y s).bay c = s.bay c := by
  have h' : b.val ≠ c.val := fun e => h (Fin.ext e.symm)
  simp [State.bay, setBay, Vector.get_eq_getElem, h']
@[simp] theorem bay_updPort (b : BayId) (p : Port) (f : PortState → PortState) (s : State) :
    (s.updPort p f).bay b = s.bay b := rfl
@[simp] theorem bay_hear (b : BayId) (p : Port) (s : State) : (hear p s).bay b = s.bay b := rfl
@[simp] theorem bay_post (b : BayId) (o : Obj) (s : State) : (post o s).bay b = s.bay b := rfl
@[simp] theorem bay_postIf (b : BayId) (c : Bool) (o : Obj) (s : State) :
    (postIf c o s).bay b = s.bay b := by cases c <;> rfl
@[simp] theorem bay_setPlan (b : BayId) (pl : Plan) (s : State) :
    (setPlan pl s).bay b = s.bay b := rfl
@[simp] theorem bayCfg_setBay (c b : BayId) (y : Bay) (s : State) :
    (setBay b y s).bayCfg c = s.bayCfg c := rfl

end Sys2Proof.Machine
end

