-- ==== Sys2Proof/Laws/Ops.lean ====
section
/-!
SUPPORT. What each shared operation can do, said once: the change of a bay, the review of the plan, the
recompute, the admission opportunity, the judgement of a request and the taking of a bay list.
-/

namespace Sys2Proof.Machine

/-! ### Operand forms -/

@[simp] theorem bayOf_byte (b : BayId) : bayOf (byte b.val) = some b := by
  have h : (byte b.val).toNat = b.val := by
    simp only [byte, BitVec.toNat_ofNat]; omega
  simp [bayOf, h]

/-! ### Postings -/

/-- A conditional posting changes the change lists alone. -/
theorem postIf_posts (c : Bool) (o : Obj) (s : State) : ∃ ps, postIf c o s = { s with ports := ps } := by
  cases c <;> exact ⟨_, rfl⟩

/-! ### The plan's review of a change -/

/-- The end of a step changes the plan and the change lists alone. -/
theorem endStep_frame (r : StepResult) (n : Nat) (s : State) :
    ∃ pl ps, endStep r n s = { s with plan := pl, ports := ps } := by
  unfold endStep
  split
  · exact ⟨s.plan, s.ports, rfl⟩
  · dsimp only
    split
    · exact ⟨_, _, rfl⟩
    · cases (s.plan.steps.get _).notify
      · exact ⟨_, s.ports, rfl⟩
      · exact ⟨_, _, rfl⟩

/-- A departure changes the plan alone. -/
theorem depart_frame (b : BayId) (s : State) : ∃ pl, depart b s = { s with plan := pl } := by
  unfold depart
  split
  · exact ⟨s.plan, rfl⟩
  · exact ⟨_, rfl⟩

/-- The plan's review of a change of a bay changes the plan and the change lists alone. -/
theorem planReview_frame (b : BayId) (s : State) :
    ∃ pl ps, planReview b s = { s with plan := pl, ports := ps } := by
  unfold planReview
  split
  · obtain ⟨pl, h⟩ := depart_frame b s
    dsimp only
    rw [h]
    split
    · obtain ⟨pl', ps', h'⟩ := endStep_frame .done (min pl.lost 8)
        { s with plan := { pl with pendingSet := [], lost := 0 } }
      exact ⟨pl', ps', h'⟩
    · split
      · exact ⟨_, _, rfl⟩
      · exact ⟨pl, s.ports, rfl⟩
  · exact ⟨s.plan, s.ports, rfl⟩

/-- A bay outside the pending set is not reviewed. -/
theorem planReview_of_not_mem {b : BayId} {s : State} (h : b ∉ s.plan.pendingSet) :
    planReview b s = s := by
  simp [planReview, h]

/-! ### Changes of a bay -/

/-- A change of a bay writes its record, and beyond that the plan and the change lists alone. -/
theorem changeBay_frame (b : BayId) (f : Bay → Bay) (s : State) :
    ∃ pl ps, changeBay b f s
      = { s with bays := s.bays.set b (f (s.bay b)), plan := pl, ports := ps } := by
  unfold changeBay
  obtain ⟨pl, ps, h⟩ := planReview_frame b (postBay b (s.report b) (setBay b (f (s.bay b)) s))
  rw [h]
  unfold postBay
  obtain ⟨qs, h'⟩ := postIf_posts (decide ((setBay b (f (s.bay b)) s).report b ≠ s.report b))
    (.bay b) (setBay b (f (s.bay b)) s)
  exact ⟨pl, ps, by rw [h']; rfl⟩

/-- The bay that is changed holds the new record. -/
@[simp] theorem changeBay_bay_same (b : BayId) (f : Bay → Bay) (s : State) :
    (changeBay b f s).bay b = f (s.bay b) := by
  obtain ⟨pl, ps, h⟩ := changeBay_frame b f s
  rw [h]
  exact bay_setBay_same b (f (s.bay b)) s

/-- Every other bay keeps its record. -/
theorem changeBay_bay_ne {b c : BayId} (hc : c ≠ b) (f : Bay → Bay) (s : State) :
    (changeBay b f s).bay c = s.bay c := by
  obtain ⟨pl, ps, h⟩ := changeBay_frame b f s
  rw [h]
  exact bay_setBay_ne hc (f (s.bay b)) s

/-- Outside the pending set a change of a bay is its record and its posting. -/
theorem changeBay_of_not_mem {b : BayId} {s : State} (h : b ∉ s.plan.pendingSet) (f : Bay → Bay) :
    changeBay b f s = postBay b (s.report b) (setBay b (f (s.bay b)) s) := by
  unfold changeBay
  apply planReview_of_not_mem
  unfold postBay
  rw [postIf_plan, setBay_plan]
  exact h

/-- A reportable change is posted. -/
theorem postBay_of_ne {b : BayId} {was : BayReport} {s : State} (h : s.report b ≠ was) :
    postBay b was s = post (.bay b) s := by
  simp [postBay, h]

/-! ### The Ledger -/

/-- A recompute writes the totals, the two flags and the shed timer, and beyond them the change lists
alone. -/
theorem recompute_frame (s : State) :
    ∃ ps, recompute s = { s with
      totals := s.computeTotals
      overBudget := decide (s.computeTotals.allowance < s.computeTotals.committed)
      redundancyLost := s.gross.2
      shed := shedTimer (decide (s.computeTotals.allowance < s.computeTotals.committed))
        s.settings.budget.shedDelay s.shed
      ports := ps } := by
  unfold recompute
  generalize s.computeTotals = t
  generalize s.gross.2 = l
  exact postIf_posts _ _ _

/-- The totals after a recompute. -/
@[simp] theorem recompute_totals (s : State) : (recompute s).totals = s.computeTotals := by
  obtain ⟨ps, h⟩ := recompute_frame s
  rw [h]

/-- A recompute changes no bay. -/
@[simp] theorem recompute_bay (b : BayId) (s : State) : (recompute s).bay b = s.bay b := by
  obtain ⟨ps, h⟩ := recompute_frame s
  rw [h]; rfl

/-! ### Admission -/

/-- With the gate shut an opportunity does nothing (R33). -/
theorem opportunity_of_shut {s : State} (h : s.gateOpen = false) : opportunity s = s := by
  unfold opportunity
  cases s.queue.length with
  | zero => rfl
  | succ n => simp [admitAll, admitOne, h]

/-- With the stagger gap timer running the gate is shut (R33). -/
theorem gateOpen_of_gap {s : State} (h : s.gap.isSome) : s.gateOpen = false := by
  obtain ⟨n, hn⟩ := Option.isSome_iff_exists.mp h
  simp [State.gateOpen, hn]

/-- The entry the scan of FILL mode finds is eligible, fits and stood in the queue (R36). -/
theorem scanFill_spec {s : State} {e : Entry} :
    ∀ {q r : List Entry}, scanFill s q = some (e, r) → e ∈ q ∧ s.eligible e ∧ s.fits e
  | [], _, h => by simp [scanFill] at h
  | x :: q, r, h => by
    unfold scanFill at h
    split at h
    · rename_i hx
      simp only [Option.some.injEq, Prod.mk.injEq] at h
      obtain ⟨rfl, -⟩ := h
      simp only [Bool.and_eq_true] at hx
      exact ⟨by simp, hx.1, hx.2⟩
    · simp only [Option.map_eq_some_iff] at h
      obtain ⟨⟨e', r'⟩, h', h''⟩ := h
      simp only [Prod.mk.injEq] at h''
      obtain ⟨rfl, -⟩ := h''
      obtain ⟨hm, he⟩ := scanFill_spec h'
      exact ⟨List.mem_cons_of_mem _ hm, he⟩

/-- A sole candidate that is chosen meets its condition, fits and stood in the queue (R35, R37). -/
theorem chooseSole_spec {s : State} {cond : Entry → Bool} {e : Entry} {r : List Entry}
    (h : chooseSole s cond = some (e, r)) :
    e ∈ s.queue ∧ cond e ∧ s.fits e ∧ r = removeEntry e.bay s.queue := by
  unfold chooseSole at h
  split at h
  · cases h
  · rename_i x hx
    split at h
    · simp only [Option.some.injEq, Prod.mk.injEq] at h
      obtain ⟨rfl, rfl⟩ := h
      exact ⟨List.mem_of_find?_eq_some hx, List.find?_some hx, by assumption, rfl⟩
    · cases h

/-- Whatever the mode, the candidate that is admitted is an eligible entry of the queue that fits
(R34–R37). -/
theorem candidate_spec {s : State} {e : Entry} {r : List Entry}
    (h : s.candidate = some (e, r)) : e ∈ s.queue ∧ s.eligible e ∧ s.fits e := by
  unfold State.candidate at h
  split at h
  · obtain ⟨hm, he, hf, -⟩ := chooseSole_spec h
    exact ⟨hm, he, hf⟩
  · split at h
    · obtain ⟨hm, he, hf, -⟩ := chooseSole_spec h
      simp only [State.starved, Bool.and_eq_true] at he
      exact ⟨hm, he.1, hf⟩
    · exact scanFill_spec h

/-- What one choice of an opportunity can do: at an open gate, admit an eligible entry that fits
(R33–R38). -/
theorem admitOne_cases {s t : State} (h : admitOne s = some t) :
    ∃ e r, s.gateOpen ∧ s.candidate = some (e, r) ∧ e ∈ s.queue ∧ s.eligible e ∧ s.fits e
      ∧ t = startBay e.bay r s := by
  unfold admitOne at h
  split at h
  · rename_i hg
    simp only [Option.map_eq_some_iff] at h
    obtain ⟨⟨e, r⟩, hc, rfl⟩ := h
    obtain ⟨hm, he, hf⟩ := candidate_spec hc
    exact ⟨e, r, hg, hc, hm, he, hf, rfl⟩
  · cases h

/-- What every admission keeps, an opportunity keeps. -/
theorem opportunity_keeps {P : State → Prop}
    (step : ∀ s t, P s → admitOne s = some t → P t) {s : State} (h : P s) : P (opportunity s) := by
  unfold opportunity
  generalize s.queue.length = n
  induction n generalizing s with
  | zero => exact h
  | succ n ih =>
    unfold admitAll
    split
    · exact h
    · rename_i t ht
      exact ih (step s t h ht)

/-! ### The queue -/

/-- A join at the end of a level group stands before the first entry of a greater level (R30). -/
theorem insertEnd_eq (e : Entry) (q : List Entry) :
    insertEnd e q = q.takeWhile (fun x => decide (x.level ≤ e.level)) ++
      e :: q.dropWhile (fun x => decide (x.level ≤ e.level)) := by
  induction q with
  | nil => rfl
  | cons x q ih =>
    unfold insertEnd
    split
    · rename_i h
      simp [Fin.not_le.mpr h]
    · rename_i h
      simp [Fin.not_lt.mp h, ih]

/-! ### Settles -/

/-- With no bay picked no settle is taken. -/
theorem takeSettles_of_none {which : BayId → BayTimer → Bool} {contacts : Vector ProfileId 60} {s : State}
    (h : ∀ b, (s.bay b).state = .settling → which b (s.bay b).timer = false) :
    takeSettles which contacts s = s := by
  unfold takeSettles
  induction allBays with
  | nil => rfl
  | cons b bs ih =>
    rw [List.foldl_cons, if_neg]
    · exact ih
    · intro hb
      rw [Bool.and_eq_true, decide_eq_true_eq] at hb
      rw [h b hb.1] at hb
      exact Bool.false_ne_true hb.2

/-- What the expiry of a settle can do: nothing where none runs, else the lower-numbered settles that are
due are taken, and then its own (R6). -/
theorem settleEnd_cases (b : BayId) (contacts : Vector ProfileId 60) (s : State) :
    settleEnd b contacts s = s
    ∨ (s.bay b).state = .settling ∧ (∃ n, (s.bay b).timer = .settle n)
      ∧ settleEnd b contacts s
          = takeSettle b (contacts.get b) (takeSettles (dueBefore b) contacts s) := by
  unfold settleEnd
  split
  · rename_i n hs ht
    exact .inr ⟨hs, ⟨n, ht⟩, rfl⟩
  · exact .inl rfl

/-! ### The start of an abort -/

/-- The entry into ABORTING changes the plan and the change lists alone, and posts the plan (R136). -/
theorem enterAborting_frame (s : State) :
    enterAborting s = post .plan { s with
      plan := { s.plan with engine := .aborting, wait := .idle, inProgress := false } } := rfl

/-- A withdrawal of an abort leaves a bay alone, or makes a QUEUED bay of origin PLAN OFF (R136, step 2). -/
theorem abortQueued_cases (b : BayId) (s : State) :
    abortQueued b s = s
    ∨ (s.bay b).state = .queued ∧ (s.bay b).origin = some .plan
      ∧ abortQueued b s = changeBay b Bay.withdrawn (dequeue b s) := by
  unfold abortQueued
  split
  · rename_i h
    simp only [Bool.and_eq_true, decide_eq_true_eq] at h
    exact .inr ⟨h.1, h.2, rfl⟩
  · exact .inl rfl

/-- A clearing of an abort leaves a bay alone, or takes requeue on stop and the origin from a STOPPING bay
of origin PLAN (R136, step 3). -/
theorem abortStopping_cases (b : BayId) (s : State) :
    abortStopping b s = s
    ∨ (s.bay b).state = .stopping ∧ (s.bay b).origin = some .plan
      ∧ abortStopping b s = changeBay b (fun y => { y with requeue := false, origin := none }) s := by
  unfold abortStopping
  split
  · rename_i h
    simp only [Bool.and_eq_true, decide_eq_true_eq] at h
    exact .inr ⟨h.1, h.2, rfl⟩
  · exact .inl rfl

/-! ### Receivers -/

/-- What `hear` leaves of its port: the receiver hunts, and the silence restarts (R153). -/
@[simp] theorem hear_port (p : Port) (s : State) :
    (hear p s).port p = { s.port p with receiver := .hunting, silenceMs := 0 } := by
  simp [hear]

/-- What the end of a discarded frame leaves of its port: the receiver hunts, the flags are set (R153,
R154). -/
@[simp] theorem endFrame_port (p : Port) (f : LinkFlags → LinkFlags) (s : State) :
    (endFrame p f s).port p
      = { s.port p with receiver := .hunting, flags := f (s.port p).flags } := by
  simp [endFrame]

/-- A byte that ends a frame leaves the receiver hunting (R153). -/
theorem take_ends_hunting {p : Port} {x : Byte} {r : Receiver} {i : Instr}
    (h : (r.take p x).2 = some i) : (r.take p x).1 = .hunting := by
  unfold Receiver.take at h ⊢
  split at h
  · simp at h
  · split at h <;> simp_all
  · split at h
    · split at h <;> simp_all
    · simp at h

/-- A byte leaves a receiver that is in order in order (R153). -/
theorem take_ok {p : Port} {x : Byte} {r : Receiver} (h : r.ok) : (r.take p x).1.ok := by
  unfold Receiver.take
  split
  · dsimp only
    split <;> rfl
  · split
    · rfl
    · simp only [Receiver.ok, List.length_nil, Bool.and_eq_true, decide_eq_true_eq]; omega
  · simp only [Receiver.ok, Bool.and_eq_true, decide_eq_true_eq] at h
    split
    · split
      · rfl
      · simp only [List.cons_append, Receiver.ok, List.length_cons, List.length_append,
          List.length_nil, Bool.and_eq_true, decide_eq_true_eq] at *
        omega
    · rename_i got _ hgot
      have hl : got.length ≤ 1 := by
        rcases got with _ | ⟨k, _ | ⟨t, pl⟩⟩
        · exact Nat.zero_le 1
        · exact Nat.le_refl 1
        · exact (hgot k t pl rfl).elim
      simp only [List.cons_append, Receiver.ok, List.length_append, List.length_cons, List.length_nil,
        Bool.and_eq_true, decide_eq_true_eq]
      omega

/-! ### Requests -/

/-- A request on a port that listens is judged and answered (R155, R157). -/
theorem request_listening {α : Type} {p : Port} {s : State} (h : s.Listening p) (cls : RightsClass)
    (code : Nat) (tag : Byte) (args : Option α) (act : α → State → Answer) :
    request cls code p tag args act s = sendReply p code tag
      (match args with
      | none => refuse .badLength (hear p s)
      | some a =>
        if s.loading && cls != .always then refuse .starting (hear p s)
        else if cls = .controlling && s.controlling != p then refuse .notControlling (hear p s)
        else act a (hear p s)) := by
  obtain ⟨h1, h2, h3⟩ := h
  simp only [request, State.deaf, h1, h2, hear_port, h3, Bool.or_self, Bool.false_eq_true, if_false,
    Option.isSome_none]
  rfl

/-- The bays of a list are taken one after another (R158). -/
theorem takeBays_byte (act : BayId → State → State × Option Result) (b : BayId) (rest : List Byte)
    (s : State) :
    takeBays act (byte b.val :: rest) s =
      ((takeBays act rest (act b s).1).1,
        match (act b s).2 with
        | none => (takeBays act rest (act b s).1).2
        | some c => (byte b.val, c) :: (takeBays act rest (act b s).1).2) := by
  cases h : (act b s).2 <;> simp [takeBays, h]

/-- A list of one bay that is accepted (R158). -/
theorem multiBay_accepts {act : BayId → State → State × Option Result} {b : BayId} {s t : State}
    (h : act b s = (t, none)) :
    multiBay act [byte b.val] s = { state := t, result := .ok, payload := [0] } := by
  simp only [multiBay, takeBays_byte, h]
  simp [takeBays, listResult, refusedList, byte]

/-- A list of one bay that is refused (R158). -/
theorem multiBay_refuses {act : BayId → State → State × Option Result} {b : BayId} {s t : State}
    {c : Result} (h : act b s = (t, some c)) :
    multiBay act [byte b.val] s
      = { state := t, result := c, payload := [1, byte b.val, byte c.code] } := by
  simp only [multiBay, takeBays_byte, h]
  simp [takeBays, listResult, refusedList, byte]

end Sys2Proof.Machine
end

