-- ==== Sys2Proof/Laws/PerInstr.lean ====
section
/-!
SUPPORT. The family Frame, one lemma for each command: a well-formed request is the command that its
own TYPE, TAG and payload name (11.2); an event has none of these.
-/

namespace Sys2Proof.Laws

open Machine

/-- A well-formed request is the command its TYPE, TAG and payload name (11.2). -/
def Frame.Statement (i : Instr) : Prop :=
  i.wf = true → ∀ p kind tag pl, i.request = some (p, kind, tag, pl) → requestOf p kind tag pl = i

/-- A TYPE outside the table of 11.2 is the command of an unknown TYPE (R157). -/
theorem requestOf_unknown {kind : Byte} (h : namesNoRequest kind = true) (p : Port) (tag : Byte)
    (pl : List Byte) : requestOf p kind tag pl = .unknownRequestType p kind tag pl := by
  have h0 : kind.toNat ∉ requestCodes := of_decide_eq_true h
  have h1 : queryOf p tag pl kind.toNat = none := by
    generalize kind.toNat = n at h0
    unfold queryOf
    split <;> first | rfl | exact absurd (by decide) h0
  have h2 : bayRequestOf p tag pl kind.toNat = none := by
    generalize kind.toNat = n at h0
    unfold bayRequestOf
    split <;> first | rfl | exact absurd (by decide) h0
  have h3 : settingRequestOf p tag pl kind.toNat = none := by
    generalize kind.toNat = n at h0
    unfold settingRequestOf
    split <;> first | rfl | exact absurd (by decide) h0
  unfold requestOf
  rw [h1, h2, h3]

/-- A family lemma for a request that is no unknown TYPE: its own TYPE names it. -/
theorem Frame.of_request {i : Instr} {p : Port} {kind tag : Byte} {pl : List Byte}
    (h : i.request = some (p, kind, tag, pl)) (hr : requestOf p kind tag pl = i) :
    Frame.Statement i := by
  intro _ p' kind' tag' pl' h'
  rw [h] at h'
  cases h'
  exact hr

/-- A family lemma for an event. -/
theorem Frame.of_event {i : Instr} (h : i.request = none) : Frame.Statement i := by
  intro _ _ _ _ _ h'
  rw [h] at h'
  cases h'

theorem Frame.identify (p : Port) (tag : Byte) (payload : List Byte) : Frame.Statement (.identify p tag payload) :=
  Frame.of_request rfl rfl

theorem Frame.status (p : Port) (tag : Byte) (payload : List Byte) : Frame.Statement (.status p tag payload) :=
  Frame.of_request rfl rfl

theorem Frame.readChanges (p : Port) (tag : Byte) (payload : List Byte) : Frame.Statement (.readChanges p tag payload) :=
  Frame.of_request rfl rfl

theorem Frame.bayQuery (p : Port) (tag : Byte) (payload : List Byte) : Frame.Statement (.bayQuery p tag payload) :=
  Frame.of_request rfl rfl

theorem Frame.queueQuery (p : Port) (tag : Byte) (payload : List Byte) : Frame.Statement (.queueQuery p tag payload) :=
  Frame.of_request rfl rfl

theorem Frame.ledgerQuery (p : Port) (tag : Byte) (payload : List Byte) : Frame.Statement (.ledgerQuery p tag payload) :=
  Frame.of_request rfl rfl

theorem Frame.zoneQuery (p : Port) (tag : Byte) (payload : List Byte) : Frame.Statement (.zoneQuery p tag payload) :=
  Frame.of_request rfl rfl

theorem Frame.lightQuery (p : Port) (tag : Byte) (payload : List Byte) : Frame.Statement (.lightQuery p tag payload) :=
  Frame.of_request rfl rfl

theorem Frame.removalQuery (p : Port) (tag : Byte) (payload : List Byte) : Frame.Statement (.removalQuery p tag payload) :=
  Frame.of_request rfl rfl

theorem Frame.readProfile (p : Port) (tag : Byte) (payload : List Byte) : Frame.Statement (.readProfile p tag payload) :=
  Frame.of_request rfl rfl

theorem Frame.readStep (p : Port) (tag : Byte) (payload : List Byte) : Frame.Statement (.readStep p tag payload) :=
  Frame.of_request rfl rfl

theorem Frame.powerOn (p : Port) (tag : Byte) (payload : List Byte) : Frame.Statement (.powerOn p tag payload) :=
  Frame.of_request rfl rfl

theorem Frame.powerOff (p : Port) (tag : Byte) (payload : List Byte) : Frame.Statement (.powerOff p tag payload) :=
  Frame.of_request rfl rfl

theorem Frame.prepareRemoval (p : Port) (tag : Byte) (payload : List Byte) : Frame.Statement (.prepareRemoval p tag payload) :=
  Frame.of_request rfl rfl

theorem Frame.cancelRemoval (p : Port) (tag : Byte) (payload : List Byte) : Frame.Statement (.cancelRemoval p tag payload) :=
  Frame.of_request rfl rfl

theorem Frame.clearFault (p : Port) (tag : Byte) (payload : List Byte) : Frame.Statement (.clearFault p tag payload) :=
  Frame.of_request rfl rfl

theorem Frame.declineAttention (p : Port) (tag : Byte) (payload : List Byte) : Frame.Statement (.declineAttention p tag payload) :=
  Frame.of_request rfl rfl

theorem Frame.setBay (p : Port) (tag : Byte) (payload : List Byte) : Frame.Statement (.setBay p tag payload) :=
  Frame.of_request rfl rfl

theorem Frame.claim (p : Port) (tag : Byte) (payload : List Byte) : Frame.Statement (.claim p tag payload) :=
  Frame.of_request rfl rfl

theorem Frame.release (p : Port) (tag : Byte) (payload : List Byte) : Frame.Statement (.release p tag payload) :=
  Frame.of_request rfl rfl

theorem Frame.handover (p : Port) (tag : Byte) (payload : List Byte) : Frame.Statement (.handover p tag payload) :=
  Frame.of_request rfl rfl

theorem Frame.takeover (p : Port) (tag : Byte) (payload : List Byte) : Frame.Statement (.takeover p tag payload) :=
  Frame.of_request rfl rfl

theorem Frame.sendNote (p : Port) (tag : Byte) (payload : List Byte) : Frame.Statement (.sendNote p tag payload) :=
  Frame.of_request rfl rfl

theorem Frame.readNote (p : Port) (tag : Byte) (payload : List Byte) : Frame.Statement (.readNote p tag payload) :=
  Frame.of_request rfl rfl

theorem Frame.setPortSettings (p : Port) (tag : Byte) (payload : List Byte) : Frame.Statement (.setPortSettings p tag payload) :=
  Frame.of_request rfl rfl

theorem Frame.setIndication (p : Port) (tag : Byte) (payload : List Byte) : Frame.Statement (.setIndication p tag payload) :=
  Frame.of_request rfl rfl

theorem Frame.clearIndication (p : Port) (tag : Byte) (payload : List Byte) : Frame.Statement (.clearIndication p tag payload) :=
  Frame.of_request rfl rfl

theorem Frame.enclosureLocate (p : Port) (tag : Byte) (payload : List Byte) : Frame.Statement (.enclosureLocate p tag payload) :=
  Frame.of_request rfl rfl

theorem Frame.lightTest (p : Port) (tag : Byte) (payload : List Byte) : Frame.Statement (.lightTest p tag payload) :=
  Frame.of_request rfl rfl

theorem Frame.reportDriveTemperatures (p : Port) (tag : Byte) (payload : List Byte) : Frame.Statement (.reportDriveTemperatures p tag payload) :=
  Frame.of_request rfl rfl

theorem Frame.setZone (p : Port) (tag : Byte) (payload : List Byte) : Frame.Statement (.setZone p tag payload) :=
  Frame.of_request rfl rfl

theorem Frame.setCurve (p : Port) (tag : Byte) (payload : List Byte) : Frame.Statement (.setCurve p tag payload) :=
  Frame.of_request rfl rfl

theorem Frame.setSensorMap (p : Port) (tag : Byte) (payload : List Byte) : Frame.Statement (.setSensorMap p tag payload) :=
  Frame.of_request rfl rfl

theorem Frame.setProfile (p : Port) (tag : Byte) (payload : List Byte) : Frame.Statement (.setProfile p tag payload) :=
  Frame.of_request rfl rfl

theorem Frame.setScheduler (p : Port) (tag : Byte) (payload : List Byte) : Frame.Statement (.setScheduler p tag payload) :=
  Frame.of_request rfl rfl

theorem Frame.setSupply (p : Port) (tag : Byte) (payload : List Byte) : Frame.Statement (.setSupply p tag payload) :=
  Frame.of_request rfl rfl

theorem Frame.setBudget (p : Port) (tag : Byte) (payload : List Byte) : Frame.Statement (.setBudget p tag payload) :=
  Frame.of_request rfl rfl

theorem Frame.setRemoval (p : Port) (tag : Byte) (payload : List Byte) : Frame.Statement (.setRemoval p tag payload) :=
  Frame.of_request rfl rfl

theorem Frame.writeStep (p : Port) (tag : Byte) (payload : List Byte) : Frame.Statement (.writeStep p tag payload) :=
  Frame.of_request rfl rfl

theorem Frame.startPlan (p : Port) (tag : Byte) (payload : List Byte) : Frame.Statement (.startPlan p tag payload) :=
  Frame.of_request rfl rfl

theorem Frame.pausePlan (p : Port) (tag : Byte) (payload : List Byte) : Frame.Statement (.pausePlan p tag payload) :=
  Frame.of_request rfl rfl

theorem Frame.resumePlan (p : Port) (tag : Byte) (payload : List Byte) : Frame.Statement (.resumePlan p tag payload) :=
  Frame.of_request rfl rfl

theorem Frame.abortPlan (p : Port) (tag : Byte) (payload : List Byte) : Frame.Statement (.abortPlan p tag payload) :=
  Frame.of_request rfl rfl

theorem Frame.checkPlan (p : Port) (tag : Byte) (payload : List Byte) : Frame.Statement (.checkPlan p tag payload) :=
  Frame.of_request rfl rfl

theorem Frame.saveSettings (p : Port) (tag : Byte) (payload : List Byte) : Frame.Statement (.saveSettings p tag payload) :=
  Frame.of_request rfl rfl

theorem Frame.restart (p : Port) (tag : Byte) (payload : List Byte) : Frame.Statement (.restart p tag payload) :=
  Frame.of_request rfl rfl

theorem Frame.unknownRequestType (p : Port) (kind : Byte) (tag : Byte) (payload : List Byte) : Frame.Statement (.unknownRequestType p kind tag payload) := by
  intro hw p' kind' tag' pl' h
  simp only [Instr.request, Option.some.injEq, Prod.mk.injEq] at h
  obtain ⟨rfl, rfl, rfl, rfl⟩ := h
  simp only [Instr.wf, Bool.and_eq_true] at hw
  exact requestOf_unknown hw.1 _ _ _

theorem Frame.checkError (p : Port) : Frame.Statement (.checkError p) := Frame.of_event rfl

theorem Frame.lengthOutOfRange (p : Port) : Frame.Statement (.lengthOutOfRange p) := Frame.of_event rfl

theorem Frame.overrunFrame (p : Port) : Frame.Statement (.overrunFrame p) := Frame.of_event rfl

theorem Frame.gap (p : Port) : Frame.Statement (.gap p) := Frame.of_event rfl

theorem Frame.breakBegin (p : Port) : Frame.Statement (.breakBegin p) := Frame.of_event rfl

theorem Frame.replyEnd (p : Port) : Frame.Statement (.replyEnd p) := Frame.of_event rfl

theorem Frame.resetAssert : Frame.Statement .resetAssert := Frame.of_event rfl

theorem Frame.resetRelease (presence : BitVec 60) (powerGood : BitVec 4) : Frame.Statement (.resetRelease presence powerGood) := Frame.of_event rfl

theorem Frame.presenceArrives (b : BayId) : Frame.Statement (.presenceArrives b) := Frame.of_event rfl

theorem Frame.presenceLost (b : BayId) : Frame.Statement (.presenceLost b) := Frame.of_event rfl

theorem Frame.pull (b : BayId) : Frame.Statement (.pull b) := Frame.of_event rfl

theorem Frame.settleEnd (b : BayId) (contacts : Vector ProfileId 60) : Frame.Statement (.settleEnd b contacts) := Frame.of_event rfl

theorem Frame.buttonPress (b : BayId) : Frame.Statement (.buttonPress b) := Frame.of_event rfl

theorem Frame.activityPulse (b : BayId) : Frame.Statement (.activityPulse b) := Frame.of_event rfl

theorem Frame.activityDarkTimerExpiry (b : BayId) : Frame.Statement (.activityDarkTimerExpiry b) := Frame.of_event rfl

theorem Frame.startTrip (b : BayId) : Frame.Statement (.startTrip b) := Frame.of_event rfl

theorem Frame.runTrip (b : BayId) : Frame.Statement (.runTrip b) := Frame.of_event rfl

theorem Frame.surgeWindowEnd (b : BayId) : Frame.Statement (.surgeWindowEnd b) := Frame.of_event rfl

theorem Frame.backoffEnd (b : BayId) : Frame.Statement (.backoffEnd b) := Frame.of_event rfl

theorem Frame.stopWindowEnd (b : BayId) : Frame.Statement (.stopWindowEnd b) := Frame.of_event rfl

theorem Frame.staggerGapExpiry : Frame.Statement .staggerGapExpiry := Frame.of_event rfl

theorem Frame.powerGoodFall (i : SupplyId) : Frame.Statement (.powerGoodFall i) := Frame.of_event rfl

theorem Frame.powerGoodRise (i : SupplyId) : Frame.Statement (.powerGoodRise i) := Frame.of_event rfl

theorem Frame.qualifyTimerExpiry (i : SupplyId) : Frame.Statement (.qualifyTimerExpiry i) := Frame.of_event rfl

theorem Frame.shedTimerExpiry : Frame.Statement .shedTimerExpiry := Frame.of_event rfl

theorem Frame.removalWindowExpiry (b : BayId) : Frame.Statement (.removalWindowExpiry b) := Frame.of_event rfl

theorem Frame.locateTimerExpiry (p : Port) (b : BayId) : Frame.Statement (.locateTimerExpiry p b) := Frame.of_event rfl

theorem Frame.enclosureLocateExpiry (p : Port) : Frame.Statement (.enclosureLocateExpiry p) := Frame.of_event rfl

theorem Frame.lightTestExpiry : Frame.Statement .lightTestExpiry := Frame.of_event rfl

theorem Frame.controlPeriod (z : ZoneId) (sensors : Vector (Option Int) 8) (speeds : Vector (BitVec 16) 4) : Frame.Statement (.controlPeriod z sensors speeds) := Frame.of_event rfl

theorem Frame.loadComplete (answer : LoadAnswer) (contacts : Vector ProfileId 60) : Frame.Statement (.loadComplete answer contacts) := Frame.of_event rfl

theorem Frame.saveComplete (outcome : SaveOutcome) : Frame.Statement (.saveComplete outcome) := Frame.of_event rfl

theorem Frame.saveTimeout (left : MemoryLeft) : Frame.Statement (.saveTimeout left) := Frame.of_event rfl

theorem Frame.planStep : Frame.Statement .planStep := Frame.of_event rfl

theorem Frame.waitTimeExpiry : Frame.Statement .waitTimeExpiry := Frame.of_event rfl

theorem Frame.breakEnd (p : Port) : Frame.Statement (.breakEnd p) := Frame.of_event rfl

theorem Frame.buttonRelease (b : BayId) : Frame.Statement (.buttonRelease b) := Frame.of_event rfl

end Sys2Proof.Laws
end

