-- ==== Sys2Proof/Tests/Slice0.lean ====
section
/-!
SUPPORT. Tests of the model against figures the manual works out (each names its section), the smoke
tests of WellFormed and of the receiver, and for each statement with hypotheses a witness that meets
them, clause by clause.
-/

namespace Sys2Proof.Tests

open Sys2Proof Sys2Proof.Machine

set_option maxRecDepth 20000

/-! ### Small states -/

/-- The drawer after a load that found no good image and a save that repaired it: READY, factory
settings, every bay EMPTY, Port A CONTROLLING. -/
def ready : State := { State.reset with store := .ready }

/-- The same with every zone at 30 °C, so that no zone holds admissions. -/
def calm : State :=
  let z : Zone := { Zone.reset with temp := some 30, curveInput := some 30, blind := false }
  { ready with zones := Vector.replicate 4 z }

/-- A bay of profile 0 in a state, as R1 and R23 give its record. -/
def bayIn (st : BayState) : Bay :=
  let y : Bay := { Bay.reset with state := st, code := some 0, profile := 0 }
  match st with
  | .empty => Bay.reset
  | .settling => { Bay.reset with state := .settling, timer := .settle 1000 }
  | .off => y
  | .queued => { y with origin := some .request }
  | .starting => { y with origin := some .request, attempts := 1, switch := true, timer := .surge 8000 }
  | .ready => { y with switch := true }
  | .backoff => { y with origin := some .request, attempts := 1, timer := .backoff 2000 }
  | .stopping => { y with timer := .stop 10000 }
  | .removable => { y with wasPowered := true, timer := .removal 120000 }
  | .fault => { y with attempts := 2, fault := some .startTrip }

/-- A queue entry with origin REQUEST at level 0. -/
def entry (b : BayId) : Entry := { bay := b, level := 0, origin := .request, bypass := 0 }

/-- A drawer with a bay's record replaced; a QUEUED bay stands last in the queue, and the Ledger has
taken the change up. -/
def put (b : BayId) (y : Bay) (s : State) : State :=
  recompute { s with
    bays := s.bays.set b y
    queue := if y.state = .queued then s.queue ++ [entry b] else s.queue }

/-- The drawer with bay 5 in a state and every other bay EMPTY. -/
def inState (st : BayState) : State := put 5 (bayIn st) ready

/-- The state a command leaves. -/
def after (c : Instr) (s : State) : State :=
  match exec c s with
  | .next t => t
  | _ => s

/-- The RESULT and payload of the reply a command leaves outstanding on a port. -/
def reply (p : Port) (c : Instr) (s : State) : Option (Result × List Byte) :=
  ((after c s).port p).outstanding.map fun r => (r.result, r.payload)

/-! ### Well-formed commands (11.1, R157) -/

/-- A payload of 249 bytes would need a LENGTH of 251. -/
theorem test_wf_refuses_long_payload :
    (Instr.sendNote .a 0 (List.replicate 249 0)).wf = false
    ∧ (Instr.sendNote .a 0 (List.replicate 248 0)).wf = true := by decide

/-- A TYPE of 11.2 is not an unknown TYPE, and a reply TYPE names no request. -/
theorem test_wf_refuses_known_type :
    (Instr.unknownRequestType .a 0x01 0 []).wf = false
    ∧ (Instr.unknownRequestType .a 0x81 0 []).wf = true := by decide

/-! ### Frames written out from 11.1 and 11.2 -/

/-- The worked frame of 11.1. -/
theorem test_frame_identify :
    receive .a [0xD5, 0x02, 0x01, 0x11, 0xEC] = some (.identify .a 0x11 [], []) := by decide

/-- POWER ON bays 4 and 7, tag 1. -/
theorem test_frame_power_on :
    receive .b [0xD5, 0x05, 0x10, 0x01, 0x02, 0x04, 0x07, 0xDD]
      = some (.powerOn .b 1 [2, 4, 7], []) := by decide

/-- CLAIM bay 12, tag 2. -/
theorem test_frame_claim :
    receive .a [0xD5, 0x04, 0x20, 0x02, 0x01, 0x0C, 0xCD] = some (.claim .a 2 [1, 12], []) := by decide

/-- SET INDICATION LOCATE on bay 5 for 10 s, tag 3. -/
theorem test_frame_set_indication :
    receive .a [0xD5, 0x07, 0x30, 0x03, 0x01, 0x05, 0x01, 0x0A, 0x00, 0xB5]
      = some (.setIndication .a 3 [1, 5, 1, 10, 0], []) := by decide

/-- REPORT DRIVE TEMPERATURES of bay 5 at 30 °C, tag 4. -/
theorem test_frame_report_temperatures :
    receive .a [0xD5, 0x05, 0x40, 0x04, 0x01, 0x05, 0x1E, 0x93]
      = some (.reportDriveTemperatures .a 4 [1, 5, 30], []) := by decide

/-- SET PROFILE 2 to the factory values of profile 0, tag 5. -/
theorem test_frame_set_profile :
    receive .a [0xD5, 0x0D, 0x50, 0x05, 0x02, 0x4A, 0x01, 0x50, 0x00, 0x5F, 0x00, 0x0A, 0x01, 0x64,
        0x00, 0x33]
      = some (.setProfile .a 5 [2, 0x4A, 1, 0x50, 0, 0x5F, 0, 10, 1, 100, 0], []) := by decide

/-- WRITE STEP slot 1: ON bays 40 and 41 with last set, tag 6. -/
theorem test_frame_write_step :
    receive .a [0xD5, 0x0B, 0x60, 0x06, 0x01, 0x01, 0x02, 0x00, 0x00, 0x00, 0x02, 0x28, 0x29, 0x38]
      = some (.writeStep .a 6 [1, 1, 2, 0, 0, 0, 2, 40, 41], []) := by decide

/-- SAVE SETTINGS, tag 7. -/
theorem test_frame_save_settings :
    receive .a [0xD5, 0x02, 0x70, 0x07, 0x87] = some (.saveSettings .a 7 [], []) := by decide

/-- TYPE 0x0C names no request. -/
theorem test_frame_unknown_type :
    receive .a [0xD5, 0x02, 0x0C, 0x08, 0xEA] = some (.unknownRequestType .a 0x0C 8 [], []) := by decide

/-- The reply of 11.1's example: LENGTH 0x0D, TYPE 0x81, TAG 0x11, RESULT 0. -/
theorem test_reply_identify :
    (((after (.identify .a 0x11 []) ready).port .a).outstanding.map fun r => r.frame.take 5)
      = some [0xD6, 0x0D, 0x81, 0x11, 0x00] := by decide

/-! ### The manual's worked figures -/

/-- Settings and reservation duties of 3.3's worked figures: zone ceilings of 80. -/
def quiet : State :=
  let c : ZoneSettings := { ZoneSettings.factory with ceiling := 80 }
  let z : Zone := { Zone.reset with
    temp := some 30, curveInput := some 30, blind := false, ceiling := 80, applied := 80, reservation := 80 }
  recompute { ready with
    settings := { Settings.factory with zones := Vector.replicate 4 c }, zones := Vector.replicate 4 z }

/-- 3.3: G 12000, U 10800, F 1236 and A 8064. -/
theorem test_budget_worked_figures :
    quiet.totals = { gross := 12000, usable := 10800, fans := 1236, allowance := 8064, committed := 0,
                     headroom := 8064 } := by decide

/-- 6.6 and 12.2: one fan of 200 dW is reserved at 103 for duty 80, at 183 for 97 and at 200 for 100. -/
theorem test_fan_reservation : [80, 97, 100].map (fanReservation 200) = [103, 183, 200] := by decide

/-- 3.3: the failure of one of two equal supplies under ONE leaves A and sets redundancy lost. -/
theorem test_supply_failure :
    (after (.powerGoodFall 1) quiet).totals.allowance = 8064
    ∧ (after (.powerGoodFall 1) quiet).redundancyLost = true := by decide

/-- 3.7, collapse and recovery: the loss of the last good supply stops a READY bay with origin
RESTORE, and A is 0. -/
theorem test_collapse :
    let t := after (.powerGoodFall 0) (after (.powerGoodFall 1) (inState .ready))
    ((t.bay 5).state, (t.bay 5).origin, (t.bay 5).lastEvent, t.totals.allowance, t.collapse)
      = (.stopping, some .restore, .collapse, 0, true) := by decide

/-- 3.7, shedding under NONE: the higher level is shed, and of one level the higher bay. -/
theorem test_shed_choice :
    let bays := fun (b : BayId) (l : Fin 8) (s : State) =>
      put b (bayIn .ready) { s with settings := { s.settings with
        bays := s.settings.bays.set b { s.bayCfg b with level := l, sheddable := true } } }
    (bays 48 2 (bays 59 2 (bays 40 0 ready))).shedChoice = some 59
    ∧ (bays 30 3 (bays 59 2 ready)).shedChoice = some 30 := by decide

/-- 2.8, a start that trips twice: BACKOFF at 1 attempt of allowance 1, FAULT at 2. -/
theorem test_trip_twice :
    ((after (.startTrip 5) (inState .starting)).bay 5).state = .backoff
    ∧ ((after (.startTrip 5) (put 5 { bayIn .starting with attempts := 2 } ready)).bay 5).fault
        = some .startTrip := by decide

/-- 2.8: POWER ON of an OFF bay with an open gate leads to STARTING in one opportunity, K up by 330. -/
theorem test_power_on_admits :
    let t := after (.powerOn .a 1 [1, 7]) (put 7 (bayIn .off) calm)
    ((t.bay 7).state, (t.bay 7).attempts, (t.bay 7).lastEvent, t.totals.committed)
      = (.starting, 1, .admitted, 330) := by decide

/-- The drawer of 2.8's FILL sequence at its first opportunity, H being 350. -/
def fill : State :=
  let e := fun (b : BayId) (l : Fin 8) => ({ bay := b, level := l, origin := .request, bypass := 0 } : Entry)
  let y := fun k : ProfileId => { bayIn .queued with profile := k }
  { calm with
    settings := { Settings.factory with scheduler :=
      { Settings.factory.scheduler with mode := .fill, bypassLimit := 2, startCap := 3 } }
    bays := (((calm.bays.set 12 (y 7)).set 13 (y 0)).set 40 (y 2)).set 42 (y 2)
    queue := [e 12 0, e 13 0, e 40 1, e 42 1]
    totals := { calm.totals with headroom := 350 } }

/-- 2.8, FILL: bay 12 (400) is passed and gains a count, bay 13 (330) is admitted. -/
theorem test_fill_passes :
    (fill.candidate.map fun c => (c.1.bay, c.2.map fun e => (e.bay, e.bypass)))
      = some (13, [(12, 1), (40, 0), (42, 0)]) := by decide

/-- 2.8, the guard: once bay 12 has 2 counts of limit 2 it is the sole candidate, and does not fit. -/
theorem test_fill_guard :
    ({ fill with queue := fill.queue.map fun e : Entry => if e.bay = 12 then { e with bypass := 2 } else e }
      ).candidate = none := by decide

/-- 6.5, the fan that stalls: the third slow period at duty 30 makes it FAILED; at 15 none counts. -/
theorem test_fan_stalls :
    let f : Fan := { state := .running, speed := 0, stallRun := 2, recoveryRun := 0 }
    (f.supervise 500 30 0).state = .failed ∧ (f.supervise 500 15 0).stallRun = 0
    ∧ (f.supervise 500 30 499).state = .failed ∧ (f.supervise 500 30 500).stallRun = 0 := by decide

/-- 6.3's worked control period: T 39, T_h 41, curve 66, boost 20, demand 80, applied 80. -/
theorem test_control_period :
    let c : ZoneSettings := { ZoneSettings.factory with ceiling := 80 }
    let x : Zone := { Zone.reset with blind := false, curveInput := some 41, applied := 70, ceiling := 80 }
    let y := ({ (x.withTemp [39, 20]).judgedIf c with boost := 20 } : Zone).driven c
    (y.temp, y.curveInput, y.demand, y.applied, y.reservation) = (some 39, some 41, 80, 80, 80) := by decide

/-- 12.2: OVERHEAT set at 58 stays at 56, and clears at 55; the applied duty falls by 3. -/
theorem test_overheat_clears :
    flagAt 58 3 56 true = true ∧ flagAt 58 3 55 true = false ∧ slew 10 3 80 100 = 97 := by decide

/-- 12.4: under DIRECT a press prepares an unowned READY bay, last event BUTTON. -/
theorem test_button_direct :
    let s := { inState .ready with settings := { Settings.factory with
      removal := { Settings.factory.removal with action := .direct } } }
    let t := after (.buttonPress 5) (put 5 { bayIn .ready with buttonArmed := true } s)
    ((t.bay 5).state, (t.bay 5).removalIntended, (t.bay 5).wasPowered, (t.bay 5).lastEvent)
      = (.stopping, true, true, .button) := by decide

/-- 4.5: CANCEL REMOVAL on the STOPPING bay that was powered leaves it to return as RESTORE. -/
theorem test_cancel_removal :
    let t := after (.cancelRemoval .a 1 [1, 5]) (after (.replyEnd .a)
      (after (.prepareRemoval .a 1 [1, 5]) (inState .ready)))
    ((t.bay 5).removalIntended, (t.bay 5).wasPowered, (t.bay 5).requeue, (t.bay 5).origin)
      = (false, false, true, some .restore) := by decide

/-- 1.9: a pull of the READY bay is REMOVED_LIVE, and leaves code absent and profile 7. -/
theorem test_pull_live :
    let y := (after (.pull 5) (inState .ready)).bay 5
    (y.state, y.code, y.profile, y.lastEvent, y.switch) = (.empty, none, 7, .removedLive, false) := by
  decide

/-- 1.9: the settle ends with the code the contacts read, last event INSERTED. -/
theorem test_settle_end :
    let y := (after (.settleEnd 5 (Vector.replicate 60 2)) (inState .settling)).bay 5
    (y.state, y.code, y.profile, y.lastEvent) = (.off, some 2, 2, .inserted) := by decide

/-- R6, R7: of two start-up settles that expire together the lower bay is taken first, whichever expiry
comes first. -/
theorem test_settles_together :
    let due := { bayIn .settling with timer := .settle 0, startMark := true }
    let s := put 9 due (put 5 due { ready with settings := { Settings.factory with scheduler :=
      { Settings.factory.scheduler with restart := .stage } } })
    let t := after (.settleEnd 9 (Vector.replicate 60 2)) s
    t.queue.map (·.bay) = [5, 9] ∧ after (.settleEnd 5 (Vector.replicate 60 2)) t = t := by decide

/-- 5.6: PREDICTED from B is amber SLOW, the attention request takes it to FAST. -/
theorem test_amber :
    let y := (after (.setIndication .b 1 [1, 5, 4, 0, 0]) (inState .ready)).bay 5
    (y.amber, ({ y with attention := true } : Bay).amber, y.green) = (.slow, .fast, .activity) := by
  decide

/-- The plan of 12.5, with bays 20–29 READY as K 950 and bays 40–45 OFF. -/
def planned : State :=
  let on : Step := { Step.reset with action := .on, bays := [40, 41, 42, 43, 44, 45], next := 1 }
  let wait : Step := { Step.reset with action := .waitSettled, next := 2 }
  let off : Step := { Step.reset with action := .off, bays := [20], last := true }
  let s := { quiet with
    bays := Vector.ofFn fun b : BayId =>
      if 20 ≤ b.val ∧ b.val < 30 then bayIn .ready
      else if 40 ≤ b.val ∧ b.val < 46 then bayIn .off else Bay.reset
    plan := { Plan.reset with steps := ((Plan.reset.steps.set 0 on).set 1 wait).set 2 off } }
  recompute s

/-- 12.5, CHECK PLAN: load 1425, A 8064, FITS, no never-admissible step, 3 steps, 0 refusals. -/
theorem test_check_plan :
    reply .a (.checkPlan .a 1 [0]) planned
      = some (.ok, [0x91, 0x05, 0, 0, 0x80, 0x1F, 0, 0, 0, 0xFF, 3, 0]) := by decide

/-- 12.5, tick 0: slot 0 queues the six bays, bay 40 is admitted at its join, K is 1280. -/
theorem test_plan_step :
    let t := after .planStep (after (.startPlan .a 1 [0]) planned)
    (t.plan.current, t.plan.pendingSet, t.queue.map (·.bay), t.totals.committed)
      = (some 1, [40, 41, 42, 43, 44, 45], [41, 42, 43, 44, 45], 1280) := by decide

/-- 8.6: a TAKEOVER before the silence limit is HELD_BY_PEER, after it the reply says what moved. -/
theorem test_takeover :
    let quietFor := fun n : Nat => { ready with ports := { ready.ports with
      a := { ready.ports.a with silenceMs := n } } }
    reply .b (.takeover .b 1 []) (quietFor 9999) = some (.heldByPeer, [])
    ∧ reply .b (.takeover .b 1 []) (quietFor 10000) = some (.ok, [0, 0, 1]) := by decide

/-- 8.6: a note into an empty slot replaces none. -/
theorem test_send_note :
    reply .b (.sendNote .b 1 [1, 2, 3, 4]) ready = some (.ok, [0])
    ∧ (after (.sendNote .b 1 [1, 2, 3, 4]) ready).ports.a.note = [1, 2, 3, 4] := by decide

/-- 9.5: a frame while the reply runs sets overrun, and the next STATUS reports and clears it. -/
theorem test_overrun :
    let t := after (.status .a 6 []) (after (.powerOff .a 5 [1, 7]) (inState .ready))
    let u := after (.status .a 7 []) (after (.replyEnd .a) t)
    (t.ports.a.flags.overrun, u.ports.a.flags.overrun,
      (u.ports.a.outstanding.map fun r => r.payload.getD 1 0)) = (true, false, some 8) := by decide

/-- 10.6: a setting written during SAVING is not in the image, and a second save is BUSY. -/
theorem test_save_overtaken :
    let s := after (.replyEnd .a) (after (.setScheduler .a 2 [2, 0, 6, 0, 0, 0, 0, 0, 0])
      { ready with store := .saving true Settings.factory })
    (reply .a (.saveSettings .a 3 []) s, s.settings.scheduler.startCap,
      ((after (.saveComplete .success) s).memory.map (·.startCap)))
        = (some (.busy, []), 6, some 4) := by decide

/-- R157: in LOADING a POWER OFF of right length is STARTING, and one of wrong length BAD_LENGTH. -/
theorem test_judgement_in_loading :
    reply .a (.powerOff .a 1 [1, 9]) State.reset = some (.starting, [])
    ∧ reply .a (.powerOff .a 1 [2, 9]) State.reset = some (.badLength, []) := by decide

/-- R159, R161: after reset the first READ CHANGES takes bays 0 to 7 and leaves 63. -/
theorem test_read_changes :
    let t := after (.readChanges .a 1 []) ready
    (t.ports.a.changes.take 1, t.ports.a.outstanding.map fun r => r.payload.take 5)
      = ([.bay 8], some [63, 8, 0, 0, 10]) := by decide

/-- R173: every number but a temperature is unsigned, so a hysteresis byte of 200 is clamped to 10. -/
theorem test_hysteresis_unsigned :
    ((after (.setZone .a 1 ([0, 8, 0] ++ [0, 0, 0, 200] ++ List.replicate 9 0)) ready).zoneCfg 0).hysteresis
      = 10 := by decide

/-- 5.3: the expiry that a SET INDICATION came before does nothing; one that is due takes LOCATE away. -/
theorem test_locate_race :
    let s := after (.setIndication .a 1 [1, 5, 1, 60, 0]) ready
    let due := { s with bays := s.bays.set 5 { s.bay 5 with locate := { a := .running 0, b := .idle } } }
    ((after (.locateTimerExpiry .a 5) s).bay 5).indications.a.locate = true
    ∧ ((after (.locateTimerExpiry .a 5) due).bay 5).indications.a.locate = false := by decide

/-- 5.5: the same race of the enclosure locate request. -/
theorem test_enclosure_locate_race :
    let s := after (.enclosureLocate .b 1 [1, 60, 0]) ready
    (after (.enclosureLocateExpiry .b) s).ports.b.locate = .running 60000 := by decide

/-- 9.1 and 11.1: the worked frame, byte by byte: its command waits once the check has arrived. -/
theorem test_receiver_bytes :
    let fed := fun n => ([0xD5, 0x02, 0x01, 0x11, 0xEC].take n).foldl (fun u x => receiveByte .a x u) ready
    (fed 4).ports.a.receiver = .collecting [0x02, 0x01, 0x11] ∧ (fed 4).pending = []
    ∧ (fed 5).ports.a.receiver = .hunting ∧ (fed 5).pending = [.identify .a 0x11 []] := by decide

/-- R126: the lost count is one of 0 to 60. -/
theorem test_lost_count :
    (after (.pull 5) { inState .starting with plan := { Plan.reset with
      engine := .running, owner := some .a, current := some 0, pendingSet := [5], lost := 60 } }).plan.lost
      = 60 := by decide

/-- R167: presence at the release of the reset pin starts SETTLING with the start-up mark. -/
theorem test_reset_release :
    let y := (after (.resetRelease 2 3) State.reset).bay 1
    (y.state, y.startMark, y.timer) = (.settling, true, .settle 1000) := by decide

/-- R51: the rise of a failed supply's line starts 20 ticks, and a fall cancels them. -/
theorem test_qualify_timer :
    (after (.powerGoodRise 2) ready).supplies.get 2 = { good := false, qualify := some 2000 }
    ∧ (after (.powerGoodFall 2) (after (.powerGoodRise 2) ready)).supplies.get 2
        = { good := false, qualify := none } := by decide

/-! ### Witnesses of the statements' hypotheses -/

/-- No command waiting, in reset and out of it. -/
theorem witness_StepTakesTheFrontCommand :
    (ready.pending = [] ∧ ready.resetHeld = false)
    ∧ ((after .resetAssert ready).pending = [] ∧ (after .resetAssert ready).resetHeld = true) := by decide

/-- Requests with the shortest and the longest payload, a known and an unknown TYPE. -/
theorem witness_FrameDecodesToItsRequest :
    ∀ i ∈ [Instr.identify .a 0x11 [], .sendNote .b 2 (List.replicate 248 7), .unknownRequestType .a 0x81 3 []],
      i.wf = true ∧ i.frame.isSome := by decide

/-- Bytes without a sync; LENGTH 1 and 251; a wrong check on 0 and on 2 payload bytes; frames that
end early by a byte, with the shortest and the longest LENGTH; a port in reset, in a break and hunting; runs
that complete no frame, and runs that do. -/
theorem witness_ReceiverDiscards :
    (0xD5 : Byte) ∉ [(0x00 : Byte), 0xD6]
    ∧ ((1 : Byte).toNat < 2 ∧ 250 < (251 : Byte).toNat)
    ∧ (([] : List Byte).length ≤ 248
        ∧ (2 + (1 : Byte).toNat + (17 : Byte).toNat + 0 + (0 : Byte).toNat) % 256 ≠ 0)
    ∧ ([(4 : Byte), 7].length ≤ 248
        ∧ (4 + (0x10 : Byte).toNat + (1 : Byte).toNat + ([(4 : Byte), 7].map BitVec.toNat).sum
            + (0 : Byte).toNat) % 256 ≠ 0)
    ∧ (2 ≤ (2 : Byte).toNat ∧ (2 : Byte).toNat ≤ 250 ∧ [(1 : Byte), 0x11].length ≤ (2 : Byte).toNat)
    ∧ (2 ≤ (250 : Byte).toNat ∧ (250 : Byte).toNat ≤ 250
        ∧ (List.replicate 250 (0 : Byte)).length ≤ (250 : Byte).toNat)
    ∧ ((after .resetAssert ready).resetHeld = true ∧ ((after (.breakBegin .a) ready).port .a).inBreak = true)
    ∧ (ready.resetHeld = false ∧ (ready.port .a).inBreak = false ∧ (ready.port .a).receiver = .hunting
        ∧ receive .a [0xD5, 2, 1] = none
        ∧ receive .a [0x00, 0xD5, 0x01, 0x07] = some (.lengthOutOfRange .a, [0x07])
        ∧ receive .a [0xD5, 0x02, 0x01, 0x11, 0xED] = some (.checkError .a, [])) := by decide

/-- Answers with no payload and with the longest. -/
theorem witness_ReplyFrameForm :
    ({ state := ready, result := .badType, payload := [] } : Answer).payload.length ≤ 247
    ∧ ({ state := ready, result := .ok, payload := List.replicate 247 0 } : Answer).payload.length ≤ 247 := by
  decide

/-- The drawer with a request of Port A outstanding. -/
def busy : State := after (.identify .a 1 []) ready

/-- The drawer with Port A's receive line in a break. -/
def broken : State := after (.breakBegin .a) ready

/-- Out of reset, with the line idle, in a break, and with a request outstanding. -/
theorem witness_LinkEvents :
    (ready.resetHeld = false ∧ (ready.port .a).inBreak = false)
    ∧ (broken.resetHeld = false ∧ (broken.port .a).inBreak = true)
    ∧ (busy.resetHeld = false ∧ (busy.port .a).inBreak = false ∧ (busy.port .a).outstanding.isSome) := by
  decide

/-- In reset, in a break, and while a request is outstanding. -/
theorem witness_UntakenRequests :
    (Instr.powerOn .a 1 [1, 5]).request = some (.a, 0x10, 1, [1, 5])
    ∧ (after .resetAssert ready).resetHeld = true ∧ (broken.port .a).inBreak = true
    ∧ (Instr.powerOn .a 1 [1, 5]).wf = true
    ∧ busy.resetHeld = false ∧ (busy.port .a).inBreak = false ∧ (busy.port .a).outstanding.isSome := by
  decide

/-- An unknown TYPE; a bay list of 0 and of 17 and a mask of no named bit; a right length in LOADING; a
CONTROLLING request from Port B. -/
theorem witness_JudgementOrder :
    (namesNoRequest 0x0C = true ∧ ready.Listening .a)
    ∧ ((0x10 : Byte).toNat ∈ requestCodes ∧ requestOf .a 0x10 1 [0] = .powerOn .a 1 [0]
        ∧ passesLength 0x10 [0] = false ∧ passesLength 0x10 (17 :: List.replicate 17 5) = false
        ∧ passesLength 0x51 [0, 0, 0, 0, 0, 0, 0, 0, 0] = false)
    ∧ (State.reset.Listening .a ∧ State.reset.loading = true
        ∧ passesLength 0x10 (16 :: List.replicate 16 5) = true ∧ passesLength 0x10 [1, 5] = true)
    ∧ ((0x70 : Byte).toNat ∈ controllingCodes ∧ requestOf .b 0x70 1 [] = .saveSettings .b 1 []
        ∧ ready.Taking .b ∧ ready.controlling ≠ .b ∧ passesLength 0x70 [] = true) := by decide

/-- Both ports listen in LOADING and in READY. -/
theorem witness_IdentifyAndStatus :
    State.reset.Listening .a ∧ State.reset.Listening .b ∧ ready.Listening .a := by decide

/-- Both ports take requests, with lists of 71, of 8 and of no entries. -/
theorem witness_ReadChangesTakesEight :
    let of := fun n : Nat => { ready with ports := { ready.ports with
      a := { ready.ports.a with changes := Obj.all.take n, attention := decide (0 < n) } } }
    ∀ n ∈ [71, 8, 0], (of n).Taking .a ∧ (of n).ports.a.changes.length = n := by decide

/-- A port that takes requests; operands at both ends of each range and just beyond. -/
theorem witness_QueriesOnlyReport :
    ready.Taking .a ∧ ready.Taking .b
    ∧ (∀ x ∈ [(0 : Byte), 59], ∃ b : BayId, x.toNat = b.val) ∧ (2 ≤ (2 : Byte).toNat)
    ∧ (∀ x ∈ [(60 : Byte), 255], 60 ≤ x.toNat)
    ∧ (∀ x ∈ [(0 : Byte), 3], ∃ v : ZoneId, x.toNat = v.val) ∧ 4 ≤ (4 : Byte).toNat
    ∧ (∀ x ∈ [(0 : Byte), 7], ∃ i : ProfileId, x.toNat = i.val) ∧ 8 ≤ (8 : Byte).toNat
    ∧ (∀ x ∈ [(0 : Byte), 31], ∃ i : SlotId, x.toNat = i.val) ∧ 32 ≤ (32 : Byte).toNat := by decide

/-- No READY sheddable bay, and one above the others; an enclosure without a fault condition and with
one; a locate request set, with the frame in its lit half, and none. -/
theorem witness_QueryPayloads :
    let t := { inState .ready with settings := { Settings.factory with
      bays := Settings.factory.bays.set 5 { ready.bayCfg 5 with sheddable := true } } }
    let s := after (.enclosureLocate .b 1 [1, 0, 0]) ready
    (∀ b : BayId, ¬ ((ready.bay b).state = .ready ∧ (ready.bayCfg b).sheddable = true))
    ∧ ((t.bay 5).state = .ready ∧ (t.bayCfg 5).sheddable = true
        ∧ ∀ d : BayId, ((t.bay d).state = .ready ∧ (t.bayCfg d).sheddable = true) → d = 5)
    ∧ ((∃ z : ZoneId, (ready.zone z).overheat = true ∨ (ready.zone z).blind = true)
        ∧ calm.faultLit = false ∧ calm.lightTest = none)
    ∧ (ready.ports.a.locate = .idle ∧ ready.ports.b.locate = .idle ∧ ready.lightTest = none)
    ∧ (s.ports.b.locate ≠ .idle ∧ s.frame % 1000 < 500) := by decide

/-- The plan of 12.5: its chain is of well-formed steps. -/
theorem witness_CheckPlanProjection :
    planned.plan.chain 0 = some [0, 1, 2]
    ∧ ∀ i ∈ [(0 : SlotId), 1, 2], (planned.plan.steps.get i).wellFormed = true := by decide

/-- A bay accepted and one refused; lists with none, one, all alike and all refused unlike; lists of 1
and 16 bays from a port that takes requests; masks and sets with no named bit, with named ones and with
one beyond them, and values that pass and that do not. -/
theorem witness_MultiBayRequests :
    let s := inState .off
    60 ≤ (60 : Byte).toNat ∧ (powerOffBay 5 s).2 = none ∧ (powerOffBay 6 s).2 = some .wrongState
    ∧ (takeBays powerOffBay [5] s).2 = []
    ∧ (takeBays powerOffBay [5, 6] s).2 = [(6, .wrongState)]
    ∧ (takeBays powerOffBay [6, 7] s).2 = [(6, .wrongState), (7, .wrongState)]
    ∧ (takeBays powerOffBay [6, 60] s).2 = [(6, .wrongState), (60, .badValue)]
    ∧ s.Taking .a ∧ 1 ≤ [(5 : Byte)].length ∧ (List.replicate 16 (5 : Byte)).length ≤ 16
    ∧ (∀ m ∈ [(1 : Byte), 16, 31, 255], m.toNat % 32 ≠ 0) ∧ (∀ m ∈ [(0 : Byte), 32], m.toNat % 32 = 0)
    ∧ ((8 : Byte).toNat.testBit 3 = true ∧ 2 ≤ (2 : Byte).toNat ∧ ¬ 2 ≤ (1 : Byte).toNat) := by decide

/-- A bay the other port owns, an unowned bay of the AUXILIARY port, and bay numbers 60 and 255; a SET
BAY mask of the level alone, to which no value is unknown. -/
theorem witness_OwnerClassRights :
    let s := put 5 { bayIn .off with owner := some .b } ready
    s.Taking .a ∧ (s.bay 5).owner = some (Port.a).peer
    ∧ s.Taking .b ∧ (s.bay 6).owner = none ∧ s.controlling = (Port.b).peer
    ∧ 60 ≤ (60 : Byte).toNat ∧ 60 ≤ (255 : Byte).toNat
    ∧ ((4 : Byte).toNat % 32 ≠ 0 ∧ ∀ k ∈ [0, 1, 3, 4], (4 : Byte).toNat.testBit k = false) := by decide

/-- EMPTY, SETTLING and OFF bays out of reset; a settle timer that runs, in LOADING and after it, with
and without the mark, under both policies of each kind; a settle that is due alone and with one of a lower bay; a settle timer
that has expired already. -/
theorem witness_PresenceAndSettle :
    let set := fun (r : RestartPolicy) (i : InsertionPolicy) (s : State) =>
      { s with settings := { s.settings with scheduler :=
        { s.settings.scheduler with restart := r, insertion := i } } }
    let marked := put 5 { bayIn .settling with startMark := true } ready
    (∀ st ∈ [BayState.empty, .settling, .off],
      (inState st).resetHeld = false ∧ ((inState st).bay 5).state = st)
    ∧ ((inState .settling).bay 5).timer = .settle 1000
    ∧ { inState .settling with store := .loading false }.loading = true
    ∧ (marked.bay 5).startMark = true ∧ (marked.bay 5).timer = .settle 1000
    ∧ (set .stage .manual marked).settings.scheduler.restart = .stage
    ∧ (set .hold .manual marked).settings.scheduler.restart ≠ .stage
    ∧ ((inState .settling).bay 5).startMark = false
    ∧ (set .hold .auto (inState .settling)).settings.scheduler.insertion = .auto
    ∧ (inState .settling).settings.scheduler.insertion ≠ .auto
    ∧ (let due := { bayIn .settling with timer := .settle 0 }
       ((put 5 due (inState .settling)).bay 5).timer = .settle 0
       ∧ ((put 9 due (put 5 due ready)).bay 5).timer = .settle 0
       ∧ ((put 9 due (put 5 due ready)).bay 9).timer = .settle 0
       ∧ ∀ c : BayId, c < 5 → ((inState .settling).bay c).state ≠ .settling)
    ∧ ((inState .off).bay 5).state ≠ .settling
    ∧ ((put 5 { bayIn .settling with timer := .settled } ready).bay 5).timer = .settled := by decide

/-- Every bay state from OFF onward occurs out of reset. -/
theorem witness_PullOutcomes :
    ∀ st ∈ [BayState.off, .queued, .starting, .ready, .backoff, .stopping, .removable, .fault],
      (inState st).resetHeld = false ∧ ((inState st).bay 5).state = st := by decide

/-- A bay outside the pending set, one in it that stays and one that does not, a change that is
reportable and one that is not. -/
theorem witness_ChangeOfABay :
    let s := { inState .starting with plan := { Plan.reset with
      engine := .running, owner := some .a, current := some 0, pendingSet := [5] } }
    let t := changeBay 5 (fun y => { y with state := .ready }) s
    let u := changeBay 5 (fun y => { y with attempts := 2 }) s
    5 ∉ ready.plan.pendingSet ∧ s.plan.pendingSet.Nodup
    ∧ (t.bay 5).staysPending = false ∧ t.report 5 ≠ s.report 5
    ∧ (u.bay 5).staysPending = true ∧ 5 ∈ s.plan.pendingSet ∧ s.plan.engine ≠ .aborting
    ∧ (changeBay 5 (fun y => { y with attempts := 2 }) ready).report 5 = ready.report 5 := by decide

/-- A bay of the pending set that becomes READY, or falls into FAULT, as the last one of a RUNNING
WAIT_SETTLED step, which it ends: DONE with the lost count of at most 8 (R132, R133). -/
theorem witness_ChangeOfABay_settled :
    let s := { put 5 { bayIn .starting with origin := some .plan } ready with plan := { Plan.reset with
      steps := Plan.reset.steps.set 0 { Step.reset with action := .waitSettled, last := true }
      engine := .running, owner := some .a, current := some 0, inProgress := true
      pendingSet := [5], lost := 7 } }
    let lost := changeBay 5 (fun y => { y with state := .fault }) s
    let won := changeBay 5 (fun y => { y with state := .ready }) s
    5 ∈ s.plan.pendingSet ∧ s.plan.pendingSet.erase 5 = []
    ∧ (s.plan.current.map fun i => (s.plan.steps.get i).action) = some .waitSettled
    ∧ (lost.plan.steps.get 0).refused = 8 ∧ (won.plan.steps.get 0).refused = 7
    ∧ won.plan.engine = .done ∧ won.plan.outcome = some .complete ∧ won.plan.lost = 0 := by decide

/-- An ABORTING engine whose last STARTING bay of origin PLAN leaves, and one that still has another; a
lost bay raises the count to 60 and no further (R132, R137). -/
theorem witness_ChangeOfABay_aborted :
    let start := fun b s => put b { bayIn .starting with origin := some .plan } s
    let s := { start 5 ready with plan := { Plan.reset with
      engine := .aborting, owner := some .a, pendingSet := [5, 6], lost := 60 } }
    let ended := changeBay 5 (fun y => { y with state := .fault }) s
    let kept := changeBay 5 (fun y => { y with state := .fault }) (start 6 s)
    5 ∈ s.plan.pendingSet ∧ s.plan.engine = .aborting
    ∧ ended.plan.engine = .done ∧ ended.plan.outcome = some .aborted ∧ ended.plan.pendingSet = []
    ∧ kept.plan.engine = .aborting ∧ kept.plan.pendingSet = [6] ∧ kept.plan.lost = 60 := by decide

/-- Every bay state, with the requester CONTROLLING and the bay unowned. -/
theorem witness_OneBayRequests :
    ∀ st ∈ [BayState.empty, .settling, .off, .queued, .starting, .ready, .backoff, .stopping, .removable,
        .fault],
      (inState st).Taking .a ∧ (inState st).mayAct .a 5 = true ∧ ((inState st).bay 5).state = st := by
  decide

/-- Armed buttons on a bay that takes a press, under NOTIFY, owned and unowned under DIRECT; a bay that
takes none; a disarmed button; DECLINE ATTENTION and CLEAR FAULT: a fault, a bay without a carrier, and
another. -/
theorem witness_ButtonsAttentionAndFaults :
    (let armed := fun st => put 5 { bayIn st with buttonArmed := true } ready
     let direct := { armed .ready with settings := { Settings.factory with
       removal := { Settings.factory.removal with action := .direct } } }
     (∀ st ∈ [BayState.off, .queued, .ready, .fault, .backoff],
       (armed st).resetHeld = false ∧ ((armed st).bay 5).buttonArmed = true
       ∧ ((armed st).bayCfg 5).buttonEnabled = true ∧ ((armed st).bay 5).state = st)
     ∧ (armed .ready).settings.removal.action ≠ .direct
     ∧ direct.settings.removal.action = .direct ∧ (direct.bay 5).owner = none
     ∧ ((armed .stopping).bay 5).state ∉ [BayState.off, .queued, .ready, .fault, .backoff]
     ∧ (ready.bay 5).buttonArmed = false)
    ∧ ∀ st ∈ [BayState.fault, .empty, .settling, .ready],
      (inState st).Taking .a ∧ (inState st).mayAct .a 5 = true ∧ ((inState st).bay 5).state = st :=
  ⟨by decide, fun st h => witness_OneBayRequests st (by revert st; decide)⟩

/-- SET BAY: masks with each named bit and one beyond them, the first values refused, a bay that takes
a profile and one that does not, a QUEUED bay whose entry moves and one whose level stays. -/
theorem witness_SetBayWrites :
    let s := inState .queued
    s.Taking .a ∧ s.mayAct .a 5 = true
    ∧ (∀ m ∈ [(1 : Byte), 2, 4, 8, 16, 31, 255], m.toNat % 32 ≠ 0)
    ∧ (8 ≤ (8 : Byte).toNat ∧ 4 ≤ (4 : Byte).toNat ∧ 2 ≤ (2 : Byte).toNat)
    ∧ (s.bay 5).state ∈ [BayState.off, .queued, .fault, .removable]
    ∧ ((inState .ready).bay 5).state ∉ [BayState.off, .queued, .fault, .removable]
    ∧ (s.bay 5).state = .queued ∧ (s.bayCfg 5).level ≠ 7 ∧ (s.bayCfg 5).level = 0
    ∧ entry 5 ∈ s.queue ∧ (entry 5).bay = 5 ∧ (s.queue.map (·.bay)).Nodup := by decide

/-- SET PROFILE: an index beyond 7, a profile in use by a READY bay, and one that is not in use. -/
theorem witness_SetProfileReplaces :
    let s := inState .ready
    s.Commanding .a ∧ 8 ≤ (8 : Byte).toNat
    ∧ (∃ b : BayId, (s.bay b).profile = 0 ∧ (s.bay b).state ∈ [BayState.starting, .ready])
    ∧ (∀ b : BayId, (s.bay b).profile = 7 → (s.bay b).state ∉ [BayState.starting, .ready]) := by decide

/-- POWER ON and POWER OFF: every bay state, and STOPPING with each flag. -/
theorem witness_PowerRequests :
    (∀ st ∈ [BayState.empty, .settling, .off, .queued, .starting, .ready, .backoff, .stopping, .removable,
        .fault],
      (inState st).Taking .a ∧ (inState st).mayAct .a 5 = true ∧ ((inState st).bay 5).state = st)
    ∧ ∀ q ∈ [(true, false), (false, true), (false, false)],
      let s := put 5 { bayIn .stopping with removalIntended := q.1, requeue := q.2 } ready
      s.Taking .a ∧ s.mayAct .a 5 = true ∧ (s.bay 5).removalIntended = q.1 ∧ (s.bay 5).requeue = q.2 :=
  ⟨witness_OneBayRequests, by decide⟩

/-- The CONTROLLING port; masks with the first, last and all named bits; values refused and taken. -/
theorem witness_SchedulerRemovalAndPortSettings :
    ready.Commanding .a ∧ (∀ m ∈ [(1 : Byte), 128, 255], m ≠ 0)
    ∧ (∀ m ∈ [(1 : Byte), 4, 255], m.toNat % 8 ≠ 0) ∧ (∀ m ∈ [(1 : Byte), 2, 255], m.toNat % 4 ≠ 0)
    ∧ ((1 : Byte).toNat.testBit 0 = true ∧ 2 ≤ (2 : Byte).toNat ∧ ¬ 2 ≤ (1 : Byte).toNat)
    ∧ ((3 : Byte) ≠ 1 ∧ (3 : Byte) ≠ 2) := by decide

/-- Entries of origin REQUEST and SHED, and a queue that ascends by level; a gap timer that runs and one
that has ended; each of the four conditions that shut the gate. -/
theorem witness_QueuePlacesAndShutGate :
    (let low := entry 4
     let high := { entry 5 with level := 2 }
     low.origin ≠ .shed ∧ { high with origin := Origin.shed }.origin = .shed
     ∧ [low, high].Pairwise (fun x y => x.level ≤ y.level))
    ∧ ready.resetHeld = false ∧ ready.gap = none ∧ ({ ready with gap := some 500 } : State).gap.isSome
    ∧ (let one := { inState .starting with settings := { Settings.factory with scheduler :=
          { Settings.factory.scheduler with startCap := 1 } } }
       one.settings.scheduler.startCap
        ≤ ((List.finRange 60).filter fun b => (one.bay b).state = .starting).length)
    ∧ State.reset.store = .loading false ∧ ({ ready with overBudget := true } : State).overBudget = true := by
  decide

/-- An open gate in STRICT mode with an empty queue, with a head that fits, and with one that does not;
FILL mode below the limit with a fit and without one, and with an entry at the limit that fits or not;
an open gate in FILL mode with a candidate and with none. -/
theorem witness_AdmissionByMode :
    let one := put 5 (bayIn .queued) calm
    let free := fun (s : State) (e : Entry) => !(s.zone (s.bayCfg e.bay).zone).holds
    let tight := { one with totals := { one.totals with headroom := 329 } }
    let counted := { fill with queue := fill.queue.map fun e : Entry => { e with bypass := 2 } }
    (calm.gateOpen = true ∧ calm.settings.scheduler.mode = .strict ∧ calm.queue.find? (free calm) = none)
    ∧ (one.gateOpen = true ∧ one.queue.find? (free one) = some (entry 5)
        ∧ ((one.profile 5).surge : Int) ≤ one.totals.headroom)
    ∧ (tight.gateOpen = true ∧ tight.queue.find? (free tight) = some (entry 5)
        ∧ tight.totals.headroom < ((tight.profile 5).surge : Int))
    ∧ (fill.settings.scheduler.mode = .fill
        ∧ (∀ e ∈ fill.queue, e.bypass < fill.settings.scheduler.bypassLimit)
        ∧ (∀ e ∈ fill.queue.take 1, ¬ ((fill.profile e.bay).surge : Int) ≤ fill.totals.headroom)
        ∧ (∀ e ∈ (fill.queue.drop 1).take 1, free fill e = true
            ∧ ((fill.profile e.bay).surge : Int) ≤ fill.totals.headroom))
    ∧ (∀ e ∈ counted.queue.take 1, free counted e = true
        ∧ counted.settings.scheduler.bypassLimit ≤ e.bypass
        ∧ ¬ ((counted.profile e.bay).surge : Int) ≤ counted.totals.headroom)
    ∧ (({ counted with totals := calm.totals } : State).profile 12).surge ≤ calm.totals.headroom
    ∧ (fill.gateOpen = true ∧ fill.candidate.isSome)
    ∧ (counted.gateOpen = true ∧ counted.settings.scheduler.mode = .fill ∧ counted.candidate = none) := by
  decide

/-- A drawer with a STARTING bay whose queue and Ledger are in order, within its budget. -/
theorem witness_OpportunityKeepsTheBudget :
    let s := put 6 (bayIn .queued) (inState .starting)
    s.QueueOk ∧ s.LedgerOk ∧ s.totals.committed ≤ s.totals.allowance
    ∧ (s.bay 5).state ≠ .queued := by decide

/-- A STARTING bay at its allowance and one beyond it, a READY bay, another; each window while it runs,
and STOPPING with each flag and with none; bays of another state, and a STARTING bay without a window. -/
theorem witness_TripsAndWindowEnds :
    let twice := put 5 { bayIn .starting with attempts := 2 } ready
    let stop := fun (q : Bool × Bool) => put 5 { bayIn .stopping with
      removalIntended := q.1, requeue := q.2, origin := some .restore } ready
    (ready.resetHeld = false ∧ ((inState .starting).bay 5).state = .starting
      ∧ ((inState .starting).bay 5).attempts ≤ ((inState .starting).profile 5).allowance)
    ∧ ((twice.bay 5).state = .starting ∧ (twice.profile 5).allowance < (twice.bay 5).attempts)
    ∧ ((inState .ready).bay 5).state = .ready
    ∧ ((inState .off).bay 5).state ∉ [BayState.starting, .ready]
    ∧ ((inState .starting).bay 5).timer = .surge 8000
    ∧ ((inState .backoff).bay 5).state = .backoff ∧ ((inState .backoff).bay 5).timer = .backoff 2000
    ∧ (∀ q ∈ [(true, false), (false, true), (false, false)],
        ((stop q).bay 5).state = .stopping ∧ ((stop q).bay 5).timer = .stop 10000
        ∧ ((stop q).bay 5).origin = some .restore
        ∧ ((stop q).bay 5).removalIntended = q.1 ∧ ((stop q).bay 5).requeue = q.2)
    ∧ ((put 5 { bayIn .starting with timer := .idle } ready).bay 5).timer = .idle
    ∧ (((inState .off).bay 5).state ≠ .starting ∧ ((inState .off).bay 5).state ≠ .backoff
        ∧ ((inState .off).bay 5).state ≠ .stopping) := by decide

/-- The factory settings are in their ranges. -/
theorem ready_settings_in_range : ready.SettingsOk := by decide

/-- Two good supplies under ONE, one under ONE, policy NONE; a derate of 100; an allowance
 above 0 and one of 0; over budget with the shed delay set and 0, and within budget. -/
theorem witness_BudgetRecompute :
    let none' := { ready with settings := { Settings.factory with
      budget := { Settings.factory.budget with reserve := .none, derate := 100, base := 20000 } } }
    let one := after (.powerGoodFall 1) ready
    let t := (recompute ready).totals
    let above := fun d => { inState .starting with settings := { Settings.factory with
      budget := { Settings.factory.budget with base := 20000, shedDelay := d } } }
    (12000 ∈ ready.goodSupplies.map (fun i => (ready.settings.supplies.get i).capacity)
      ∧ ready.settings.budget.reserve = .one ∧ 2 ≤ ready.goodSupplies.length
      ∧ ∀ x ∈ ready.goodSupplies.map (fun i => (ready.settings.supplies.get i).capacity), x ≤ 12000)
    ∧ none'.settings.budget.reserve = .none ∧ one.goodSupplies.length < 2
    ∧ ready.settings.budget.derate ≤ 100 ∧ none'.settings.budget.derate = 100
    ∧ ready.settings.budget.base + t.fans ≤ t.usable
    ∧ (recompute (above 3)).totals.usable < 20000
    ∧ ((recompute (above 3)).overBudget = true ∧ (above 3).overBudget = false
        ∧ (above 3).settings.budget.shedDelay ≠ 0)
    ∧ (above 0).settings.budget.shedDelay = 0
    ∧ (recompute ready).overBudget = ready.overBudget
    ∧ (recompute ready).redundancyLost = ready.redundancyLost := by decide

/-- Supply 0 good, supply 2 failed with no timer, and supply 2 with its timer running. -/
theorem witness_PowerGoodLines :
    let rising := after (.powerGoodRise 2) ready
    ready.resetHeld = false ∧ (ready.supplies.get 0).good = true ∧ (ready.supplies.get 2).good = false
    ∧ (ready.supplies.get 2).qualify = none
    ∧ rising.resetHeld = false ∧ (rising.supplies.get 2).good = false
    ∧ (rising.supplies.get 2).qualify.isSome := by decide

/-- A READY bay on one good supply, whose line falls. -/
theorem witness_CollapseStopsEveryBay :
    let s := after (.powerGoodFall 1) (inState .ready)
    s.resetHeld = false ∧ s.QueueOk ∧ s.LedgerOk ∧ s.collapse = false ∧ s.goodSupplies = [0]
    ∧ (s.bay 5).state ∈ [BayState.starting, .ready]
    ∧ (s.bay 6).state ∉ [BayState.starting, .ready, .queued]
    ∧ exec (.powerGoodFall 0) s = .next (after (.powerGoodFall 0) s) := by
  refine ⟨by decide, by decide, by decide, by decide, by decide, by decide, by decide, rfl⟩

/-- A supply good or none, each with the collapse flag set and clear; a bay in power to stop (R66). -/
theorem witness_judgeCollapse :
    let good := fun s : State => ∃ i : SupplyId,
      (s.settings.supplies.get i).installed = true ∧ (s.supplies.get i).good = true
    let dark := { inState .ready with supplies := Vector.replicate 4 { good := false, qualify := none } }
    good ready ∧ good { ready with collapse := true } ∧ ¬ good dark ∧ ¬ good { dark with collapse := true }
    ∧ dark.collapse = false ∧ (dark.bay 5).state ∈ [BayState.starting, .ready] := by decide

/-- The CONTROLLING port; masks, indices and values at the ends of their ranges and beyond. -/
theorem witness_SetSupplyAndBudget :
    ready.Commanding .a ∧ (∀ m ∈ [(1 : Byte), 2, 255], m.toNat % 4 ≠ 0)
    ∧ (∀ m ∈ [(1 : Byte), 8, 255], m.toNat % 16 ≠ 0)
    ∧ 4 ≤ (4 : Byte).toNat ∧ (∃ i : SupplyId, (3 : Byte).toNat = i.val)
    ∧ ((1 : Byte).toNat.testBit 0 = true ∧ 2 ≤ (2 : Byte).toNat ∧ ¬ 2 ≤ (1 : Byte).toNat) := by decide

/-- Over budget with the timer running: with a READY sheddable bay, and with none; the timer idle. -/
theorem witness_ShedTimerExpiry :
    let s := { inState .ready with overBudget := true, shed := some 0 }
    let t := { s with settings := { s.settings with
      bays := s.settings.bays.set 5 { s.bayCfg 5 with sheddable := true } } }
    let can := fun b : BayId => (t.bay b).state = .ready ∧ (t.bayCfg b).sheddable = true
    (t.resetHeld = false ∧ t.shed.isSome ∧ t.overBudget = true ∧ can 5
      ∧ ∀ c : BayId, can c → c ≠ 5 → (t.bayCfg c).level < (t.bayCfg 5).level
          ∨ ((t.bayCfg c).level = (t.bayCfg 5).level ∧ c < 5))
    ∧ (s.shed.isSome ∧ s.overBudget = true
      ∧ ∀ b : BayId, ¬ ((s.bay b).state = .ready ∧ (s.bayCfg b).sheddable = true))
    ∧ ready.shed = none := by decide

/-- PREPARE REMOVAL: every bay state, and STOPPING with and without removal intended. -/
theorem witness_PrepareRemovalOutcomes :
    (∀ st ∈ [BayState.empty, .settling, .off, .queued, .starting, .ready, .backoff, .stopping, .removable,
        .fault],
      (inState st).Taking .a ∧ (inState st).mayAct .a 5 = true ∧ ((inState st).bay 5).state = st)
    ∧ ∀ q ∈ [true, false],
      let s := put 5 { bayIn .stopping with removalIntended := q } ready
      s.Taking .a ∧ s.mayAct .a 5 = true ∧ (s.bay 5).removalIntended = q :=
  ⟨witness_OneBayRequests, by decide⟩

/-- A REMOVABLE bay whose window runs, and one without a window; STOPPING with the flags CANCEL REMOVAL finds; an OFF bay. -/
theorem witness_RemovableLeaves :
    let stop := fun (q : Bool × Bool) => put 5 { bayIn .stopping with
      removalIntended := q.1, wasPowered := q.2 } ready
    ((inState .removable).resetHeld = false ∧ ((inState .removable).bay 5).state = .removable
      ∧ ((inState .removable).bay 5).timer = .removal 120000
      ∧ (inState .removable).Taking .a ∧ (inState .removable).mayAct .a 5 = true)
    ∧ (∀ q ∈ [(true, true), (true, false), (false, false)],
        (stop q).Taking .a ∧ (stop q).mayAct .a 5 = true ∧ ((stop q).bay 5).state = .stopping
        ∧ ((stop q).bay 5).removalIntended = q.1 ∧ ((stop q).bay 5).wasPowered = q.2)
    ∧ ((inState .off).Taking .a ∧ (inState .off).mayAct .a 5 = true
        ∧ ((inState .off).bay 5).state ∉ [BayState.removable, .stopping])
    ∧ ((put 5 { bayIn .removable with timer := .idle } ready).bay 5).timer = .idle := by decide

/-- Sets of no named bit, of LOCATE alone and of a drive-bound bit, on an EMPTY and on a READY bay;
locate timers idle, running and due. -/
theorem witness_HostIndications :
    let s := after (.setIndication .a 1 [1, 5, 1, 60, 0]) ready
    ready.Taking .a ∧ ready.Taking .b ∧ (32 : Byte).toNat % 32 = 0
    ∧ ((2 : Byte).toNat % 32 ≥ 2 ∧ (ready.bay 5).state ∈ [BayState.empty, .settling])
    ∧ ((1 : Byte).toNat % 32 = 1 ∧ (1 : Byte).toNat % 32 ≠ 0)
    ∧ ((31 : Byte).toNat % 32 ≠ 0 ∧ ((inState .ready).bay 5).state ∉ [BayState.empty, .settling])
    ∧ ready.resetHeld = false ∧ (ready.bay 5).locate.get .a = .idle
    ∧ s.resetHeld = false ∧ (s.bay 5).locate.get .a = .running 60000
    ∧ (let due := { s with bays := s.bays.set 5 { s.bay 5 with locate := { a := .running 0, b := .idle } } }
       due.resetHeld = false ∧ (due.bay 5).locate.get .a = .running 0) := by decide

/-- Both ports; each action; a request idle, running and due; a light test idle and running. -/
theorem witness_LightRequestsAndTimers :
    let s := after (.enclosureLocate .b 1 [1, 60, 0]) ready
    ready.Taking .b ∧ ready.Commanding .a ∧ 2 ≤ (2 : Byte).toNat ∧ ready.resetHeld = false
    ∧ (ready.port .b).locate = .idle ∧ (s.port .b).locate = .running 60000
    ∧ (({ s with ports := s.ports.set .b { s.port .b with locate := .running 0 } } : State).port .b).locate
        = .running 0
    ∧ s.resetHeld = false ∧ (after (.lightTest .a 1 []) ready).lightTest.isSome
    ∧ ready.lightTest = none := by decide

/-- The light frame position a step leaves. -/
def stepFrame (s : State) : Option Nat :=
  match step s with
  | .next t => some t.frame
  | _ => none

/-- In reset, in a light test and without one; a bay in FAULT and a drawer without fault; a locate
request set and none; a fan ABSENT and one RUNNING; steps without a command, in reset and out of it, with
RESET_RELEASE and with another command. -/
theorem witness_LightOutputs :
    let s := { ready with frame := 1999 }
    s.frame < 2000 ∧ (after .resetAssert s).resetHeld = true ∧ s.resetHeld = false
    ∧ ({ s with lightTest := some 1 } : State).lightTest.isSome ∧ s.lightTest = none
    ∧ s.faultLit = true ∧ calm.faultLit = false
    ∧ (s.ports.a.locate = .idle ∧ s.ports.b.locate = .idle)
    ∧ ¬ ((after (.enclosureLocate .b 1 [1, 0, 0]) s).ports.b.locate = .idle)
    ∧ (s.fans.get 3).state = .absent ∧ (s.fans.get 0).state ≠ .absent
    ∧ stepFrame s = some 0
    ∧ stepFrame (after .resetAssert s) = some 1999
    ∧ stepFrame { s with pending := [.resetRelease 0 3] } = some 0
    ∧ stepFrame { s with pending := [.planStep] } = some 1999 := by decide

/-- Reports of 1 and of 30 pairs; a bay named twice, one not powered, and one beyond 59. -/
theorem witness_ReportedTemperatures :
    (inState .ready).Taking .a ∧ 1 ≤ [((5 : Byte), (30 : Byte))].length
    ∧ (List.replicate 30 ((60 : Byte), (0 : Byte))).length ≤ 30
    ∧ ((inState .ready).bay 5).state ∈ [BayState.starting, .ready]
    ∧ ((inState .ready).bay 6).state ∉ [BayState.starting, .ready] := by decide

/-- Periods of zone 0 with no valid input and with one at each end of the sensors' range. -/
theorem witness_ControlPeriodStages :
    let period := fun t : Option Int => after
      (.controlPeriod 0 (Vector.replicate 8 t) (Vector.replicate 4 2000)) ready
    ready.resetHeld = false ∧ ((period none).zone 0).temp = none
    ∧ ((period (some 125)).zone 0).temp = some 125 ∧ ((period (some (-40))).zone 0).temp = some (-40)
    ∧ ((period (some 126)).zone 0).blind = true := by decide

/-- Fans of zone 0 RUNNING, FAILED and ABSENT; a period that changes a flag and one that does not; a
zone whose applied duty is below and above its demand. -/
theorem witness_ControlPeriodHandsOn :
    let failed := { ready with fans := ready.fans.set 1 { (ready.fans.get 1) with state := .failed } }
    ready.resetHeld = false ∧ (ready.fans.get (fanOf 0 0)).state = .running
    ∧ (failed.fans.get (fanOf 0 1)).state = .failed ∧ (ready.fans.get (fanOf 0 3)).state = .absent
    ∧ (0 : BitVec 16).toNat < (ready.zoneCfg 0).stallSpeed ∧ 20 ≤ (ready.zone 0).applied
    ∧ ¬ (500 : BitVec 16).toNat < (ready.zoneCfg 0).stallSpeed
    ∧ (4 : FanId).val / 4 ≠ (0 : ZoneId).val
    ∧ (calm.zone 0).flags ≠ (ready.zone 0).flags := by decide

/-- The factory curve, at its first and last temperatures, beyond them and between its points; a
falling curve; settings in range. -/
theorem witness_CurveDuty :
    let c : List (Int × Nat) := [(25, 30), (35, 45), (45, 80), (55, 100)]
    CurveInRange c ∧ c.head? = some (25, 30) ∧ c.getLast? = some (55, 100)
    ∧ c = [(25, 30)] ++ (35, 45) :: (45, 80) :: [(55, 100)] ∧ (35 : Int) ≤ 44 ∧ (44 : Int) < 45
    ∧ CurveInRange [(30, 60), (37, 40)] ∧ State.reset.SettingsOk :=
  ⟨by decide, by decide, by decide, by decide, by decide, by decide, by decide, by decide⟩

/-- The CONTROLLING port; masks of the first, last and all settings; zones 3 and 4; a fan count that
acts on ABSENT and on RUNNING fans. -/
theorem witness_SetZoneAndFanCount :
    ready.Commanding .a
    ∧ (((1 : Byte).toNat + 256 * (0 : Byte).toNat) % 2048 ≠ 0
      ∧ ((0 : Byte).toNat + 256 * (4 : Byte).toNat) % 2048 ≠ 0
      ∧ ((255 : Byte).toNat + 256 * (255 : Byte).toNat) % 2048 ≠ 0)
    ∧ 4 ≤ (4 : Byte).toNat ∧ (∃ z : ZoneId, (3 : Byte).toNat = z.val)
    ∧ (ready.zoneCfg 0).fanCount ≤ 3 ∧ (ready.fans.get (fanOf 0 3)).state = .absent
    ∧ (ready.fans.get (fanOf 0 2)).state ≠ .absent :=
  ⟨by decide, by simp, by decide, by decide, by decide, by decide, by decide⟩

/-- Points that SET CURVE takes, as the statement says it. -/
abbrev GoodPoints (ps : List (Byte × Byte)) : Prop :=
  2 ≤ ps.length ∧ ps.length ≤ 6
  ∧ (ps.map fun q => (max (-40) (min 125 q.1.toInt), min q.2.toNat 100)).Pairwise fun q r => q.1 < r.1

/-- The CONTROLLING port; curves of 2 and 6 points that ascend, and 1, 7 and equal ones that do not;
masks of the sensor map, and an unknown entry. -/
theorem witness_SetCurveAndSensorMap :
    ready.Commanding .a ∧ 4 ≤ (4 : Byte).toNat ∧ (∃ z : ZoneId, (3 : Byte).toNat = z.val)
    ∧ (GoodPoints [(25, 30), (35, 45)] ∧ GoodPoints [(1, 0), (2, 0), (3, 0), (4, 0), (5, 0), (6, 255)])
    ∧ (¬ GoodPoints [(25, 30)] ∧ ¬ GoodPoints [(25, 30), (25, 45)]
      ∧ ¬ GoodPoints [(1, 0), (2, 0), (3, 0), (4, 0), (5, 0), (6, 0), (7, 0)])
    ∧ (((1 : Byte).toNat + 256 * (0 : Byte).toNat) % 512 ≠ 0
      ∧ ((0 : Byte).toNat + 256 * (1 : Byte).toNat) % 512 ≠ 0
      ∧ ((255 : Byte).toNat + 256 * (255 : Byte).toNat) % 512 ≠ 0)
    ∧ (4 ≤ (4 : Byte).toNat ∧ (4 : Byte) ≠ 0xFF) :=
  ⟨by decide, by decide, by decide, by decide, by decide, by simp, by decide⟩

/-- An engine IDLE and one RUNNING; each first value beyond its range and the last within; a chain in
order from slot 0, and none from slot 3; a step of each kind. -/
theorem witness_PlanTableAndChains :
    let s := after (.startPlan .a 1 [0]) planned
    planned.Commanding .a ∧ planned.plan.engine ∉ [EngineState.running, .paused, .aborting]
    ∧ s.plan.engine = .running ∧ ({ s with ports := planned.ports } : State).Commanding .a
    ∧ (32 ≤ (32 : Byte).toNat ∧ 6 ≤ (6 : Byte).toNat ∧ 8 < (List.replicate 9 (5 : Byte)).length)
    ∧ (∃ i : SlotId, (31 : Byte).toNat = i.val) ∧ StepAction.ofCode 5 = some .waitSettled
    ∧ planned.plan.chain 0 = some [0, 1, 2] ∧ planned.plan.chain 3 = none := by decide

/-- A RUNNING engine at a step of each kind, with an empty and a full pending set; a WAIT_TIME step in
progress; an engine that is not RUNNING; a bay the plan's owner may act on in each state, and one it
may not. -/
theorem witness_PlanStepsRunAndEnd :
    let at' := fun (a : StepAction) => { inState .off with plan := { Plan.reset with
      steps := Plan.reset.steps.set 0 { Step.reset with action := a, wait := some 1, last := true }
      engine := .running, owner := some .a, current := some 0 } }
    let waiting := after .planStep (at' .waitTime)
    (∀ a ∈ [StepAction.none, .on, .off, .remove, .waitTime, .waitSettled],
      (at' a).resetHeld = false ∧ (at' a).plan.current = some 0 ∧ (at' a).plan.engine = .running
      ∧ (at' a).plan.inProgress = false ∧ ((at' a).plan.steps.get 0).action = a
      ∧ (at' a).plan.pendingSet = [])
    ∧ ((after .planStep (after (.startPlan .a 1 [0]) planned)).plan.pendingSet ≠ []
        ∧ ((after .planStep (after (.startPlan .a 1 [0]) planned)).plan.currentStep.map (·.action))
          = some .waitSettled)
    ∧ (waiting.plan.engine = .running ∧ waiting.plan.wait = .running 100 ∧ waiting.plan.inProgress = true)
    ∧ ready.plan.engine ≠ .running ∧ ready.plan.wait = .idle
    ∧ (∀ q ∈ (Bay.reset).owner, (at' .on).plan.owner = some q)
    ∧ (let s := put 5 { bayIn .off with owner := some .b } (at' .on)
       (s.bay 5).owner = some .b ∧ s.plan.owner ≠ some .b) := by decide

/-- The plan of 12.5 paused after its first step: bay 40 STARTING and 41 to 45 QUEUED, all pending with
origin PLAN. -/
def paused : State :=
  let s := after .planStep (after .planStep (after (.startPlan .a 1 [0]) planned))
  { s with plan := { s.plan with engine := .paused }, ports := planned.ports }

/-- R136: an abort posts the plan at its entry, and then the bays it withdraws. -/
theorem test_abort_posts_the_plan_first :
    let s := { paused with ports := { paused.ports with
      a := { paused.ports.a with changes := [], attention := false } } }
    (after (.abortPlan .a 1 []) s).ports.a.changes = [.plan, .bay 41, .bay 42, .bay 43, .bay 44, .bay 45] := by
  decide

/-- R136: an abort makes its withdrawals (step 2) before its clearings (step 3), also where a STOPPING
bay stands before the QUEUED ones in the pending set. -/
theorem test_abort_withdraws_before_it_clears :
    let stop := { bayIn .stopping with requeue := true, origin := some .plan }
    let wait := { bayIn .queued with origin := some .plan }
    let s := put 42 wait (put 41 wait (put 50 stop { ready with
      plan := { Plan.reset with engine := .paused, owner := some .a, pendingSet := [50, 41, 42] }
      ports := { ready.ports with a := { ready.ports.a with changes := [], attention := false } } }))
    (abortPlan s).ports.a.changes = [.plan, .bay 41, .bay 42, .bay 50]
    ∧ ((abortPlan s).bay 41).state = .off ∧ ((abortPlan s).bay 50).requeue = false := by decide

/-- Each engine state from the CONTROLLING port; the paused plan, whose queue and plan are in order; a
paused plan with nothing pending. -/
theorem witness_PauseResumeAndAbort :
    (∀ e ∈ [EngineState.idle, .running, .paused, .aborting, .done],
      let s := { ready with plan := { Plan.reset with engine := e } }
      s.Commanding .a ∧ s.plan.engine = e ∧ s.plan.pendingSet = [])
    ∧ paused.Commanding .a ∧ paused.QueueOk ∧ paused.PlanOk ∧ paused.plan.engine = .paused
    ∧ 41 ∈ paused.plan.pendingSet ∧ (paused.bay 41).state = .queued
    ∧ (paused.bay 41).origin = some .plan ∧ (paused.bay 40).state = .starting :=
  ⟨by decide, by decide, by decide, by decide, by decide, by decide, by decide, by decide, by decide⟩

/-- The paused plan with a bay to clear before the bays to withdraw in its pending set. -/
theorem witness_PauseResumeAndAbort_both :
    let s := put 50 { bayIn .stopping with requeue := true, origin := some .plan } { paused with
      plan := { paused.plan with pendingSet := 50 :: paused.plan.pendingSet } }
    s.Commanding .a ∧ s.QueueOk ∧ s.PlanOk ∧ s.plan.engine = .paused ∧ 41 ∈ s.plan.pendingSet
    ∧ (s.bay 41).state = .queued ∧ (s.bay 50).state = .stopping :=
  ⟨by decide, by decide, by decide, by decide, by decide, by decide, by decide⟩

/-- A bay unowned, owned and the peer's; a CONTROLLING port; a peer silent for 9 s and for 10 s. -/
theorem witness_ClaimsRolesAndTakeover :
    let s := put 5 { bayIn .off with owner := some .a } ready
    let silentFor := fun n : Nat => { ready with ports := { ready.ports with
      a := { ready.ports.a with silenceMs := n } } }
    s.Taking .a ∧ s.Taking .b ∧ (s.bay 6).owner = none ∧ (s.bay 5).owner = some .a
    ∧ (s.bay 5).owner = some (Port.b).peer ∧ s.controlling = .a
    ∧ (silentFor 9999).Taking .b
    ∧ min (((silentFor 9999).port (Port.b).peer).silenceMs / 1000) 65535
        < (silentFor 9999).settings.ports.silenceLimit
    ∧ (silentFor 10000).settings.ports.silenceLimit
        ≤ min (((silentFor 10000).port (Port.b).peer).silenceMs / 1000) 65535
    ∧ (silentFor 10000).plan.pendingSet = [] := by decide

/-- Notes of 1 and of 16 bytes, with the slot empty and full. -/
theorem witness_Notes :
    let s := after (.sendNote .b 1 [7]) ready
    s.Taking .a ∧ (s.port .a).note = [7] ∧ ready.Taking .b ∧ (ready.port .a).note = []
    ∧ 1 ≤ [(7 : Byte)].length ∧ (List.replicate 16 (7 : Byte)).length ≤ 16 := by decide

/-- READY and SAVING from the CONTROLLING port; the factory settings in their ranges. -/
theorem witness_SavedSettings :
    let s := { ready with store := .saving true Settings.factory }
    ready.Commanding .a ∧ (∀ f x, ready.store ≠ .saving f x) ∧ s.Commanding .a
    ∧ s.store = .saving true Settings.factory ∧ ready.resetHeld = false ∧ s.resetHeld = false
    ∧ Settings.factory.InRange :=
  ⟨by decide, fun _ _ h => (by cases h), by decide, rfl, rfl, rfl, by decide⟩

/-- A good image whose numbers are outside their ranges or at odds, and images with an unknown value, an
unknown map entry and a curve out of order (R164). -/
theorem witness_SavedSettings_image :
    let m := Settings.factory.image
    let odd := { m with window := 5, silenceLimit := 0, profiles := Vector.replicate 8 {
      surge := 10, surgeTime := 0, run := 20, boost := 31, allowance := 4, stopTime := 301 } }
    odd.good = true ∧ odd.settings.removal.window = 10 ∧ odd.settings.ports.silenceLimit = 2
    ∧ (odd.settings.profiles.get 0).run = 10 ∧ (odd.settings.profiles.get 0).surgeTime = 1
    ∧ { m with mode := 2 }.good = false
    ∧ { m with sensorMap := m.sensorMap.set 0 4 }.good = false
    ∧ { m with zones := m.zones.set 0 { m.zones.get 0 with curve := [(40, 20), (40, 30)] } }.good = false :=
  by decide +kernel

/-- Engine IDLE and RUNNING; a save under way and none. -/
theorem witness_RestartAndReset :
    ready.Commanding .a ∧ ready.plan.engine ∉ [EngineState.running, .paused, .aborting]
    ∧ (∀ f x, ready.store ≠ .saving f x)
    ∧ ({ planned with plan := { planned.plan with engine := .running } } : State).Commanding .a
    ∧ ∃ f x, ({ ready with store := .saving true Settings.factory } : State).store = .saving f x :=
  ⟨by decide, by decide, fun _ _ h => (by cases h), by decide, true, Settings.factory, rfl⟩

/-- A drawer in LOADING with a STARTING, a READY and a waiting SETTLING bay. -/
def reloading : State :=
  { put 7 { bayIn .settling with timer := .settled } (put 6 (bayIn .ready) (inState .starting)) with
    store := .loading true }

/-- The load of the factory image with every supply uninstalled. -/
def darkImage : Image :=
  { Settings.factory.image with supplies := Vector.replicate 4 { installed := 0, capacity := 0 } }

/-- A load that no memory answers leaves the factory supplies. -/
theorem load_keeps_supplies :
    (after (.loadComplete .noAnswer (Vector.replicate 60 2)) reloading).goodSupplies ≠ [] := by
  decide +kernel

/-- A load of the dark image leaves no good supply. -/
theorem load_uninstalls :
    (after (.loadComplete (.other (some darkImage)) (Vector.replicate 60 2)) reloading).goodSupplies
      = [] := by decide +kernel

/-- A good image; loads that leave a good supply and none, over bays of each kind the statement names;
and a state that is not LOADING. -/
theorem witness_LoadCompletion :
    reloading.resetHeld = false ∧ reloading.loading = true ∧ ready.loading = false ∧ reloading.QueueOk
    ∧ Settings.factory.image.good = true
    ∧ (after (.loadComplete .noAnswer (Vector.replicate 60 2)) reloading).goodSupplies ≠ []
    ∧ (after (.loadComplete (.other (some darkImage)) (Vector.replicate 60 2)) reloading).goodSupplies = []
    ∧ (reloading.bay 5).state = .starting ∧ (reloading.bay 6).state = .ready
    ∧ ((reloading.bay 7).state = .settling ∧ (reloading.bay 7).timer = .settled)
    ∧ ∀ b : BayId, ¬ (((put 7 (bayIn .off) reloading).bay b).state = .settling
        ∧ ((put 7 (bayIn .off) reloading).bay b).timer = .settled) :=
  ⟨rfl, rfl, rfl, by decide, by decide +kernel, load_keeps_supplies, load_uninstalls, by decide, by decide,
    by decide, by decide⟩

/-- A drawer in which every invariant holds, a plan waits for the STARTING bay 5, and its surge window
is due. -/
def working : State :=
  let wait : Step := { Step.reset with action := .waitSettled, last := true }
  { put 5 { bayIn .starting with origin := some .plan } calm with
    pending := [.surgeWindowEnd 5]
    sensors := Vector.replicate 8 { reading := some 30, valid := true }
    plan := { Plan.reset with
      steps := Plan.reset.steps.set 0 wait, engine := .running, owner := some .a, current := some 0
      inProgress := true, pendingSet := [5] } }

/-- Every invariant holds of it. -/
theorem working_inv : working.Inv := 
  ⟨by decide, by decide, by decide, by decide, by decide, by decide, by decide, by decide, by decide,
    by decide⟩

/-- The state its step leaves: the bay is READY and the plan is done. -/
theorem working_step :
    step working = .next (after (.surgeWindowEnd 5) { working with pending := [] })
    ∧ ((after (.surgeWindowEnd 5) { working with pending := [] }).bay 5).state = .ready
    ∧ (after (.surgeWindowEnd 5) { working with pending := [] }).plan.engine = .done :=
  ⟨rfl, by decide, by decide⟩

/-- A state in order that steps to a next state. -/
theorem witness_QueueIsTheQueuedBays : ∃ s t, State.QueueOk s ∧ step s = .next t :=
  ⟨working, _, working_inv.1, working_step.1⟩

/-- A state in order that steps to a next state. -/
theorem witness_SwitchesFollowTheState : ∃ s t, State.SwitchesOk s ∧ step s = .next t :=
  ⟨working, _, working_inv.2.1, working_step.1⟩

/-- A state in order that steps to a next state. -/
theorem witness_PortsStayInOrder : ∃ s t, State.ListsOk s ∧ State.LinksOk s ∧ step s = .next t :=
  ⟨working, _, working_inv.2.2.1, working_inv.2.2.2.2.2.2.2.2.1, working_step.1⟩

/-- A state in order that steps to a next state. -/
theorem witness_LedgerIsUpToDate : ∃ s t, State.LedgerOk s ∧ step s = .next t :=
  ⟨working, _, working_inv.2.2.2.1, working_step.1⟩

/-- A state in order that steps to a next state. -/
theorem witness_SettingsStayInRange : ∃ s t, State.SettingsOk s ∧ step s = .next t :=
  ⟨working, _, working_inv.2.2.2.2.1, working_step.1⟩

/-- A state in order that steps to a next state. -/
theorem witness_BayRecordsStayInOrder :
    ∃ s t, State.QueueOk s ∧ State.SettingsOk s ∧ State.BaysOk s ∧ step s = .next t :=
  ⟨working, _, working_inv.1, working_inv.2.2.2.2.1, working_inv.2.2.2.2.2.1, working_step.1⟩

/-- A state in order that steps to a next state. -/
theorem witness_PlanStaysInOrder : ∃ s t, State.PlanOk s ∧ step s = .next t :=
  ⟨working, _, working_inv.2.2.2.2.2.2.1, working_step.1⟩

/-- A state in order that steps to a next state. -/
theorem witness_ZonesStayInOrder : ∃ s t, State.SettingsOk s ∧ State.ZonesOk s ∧ step s = .next t :=
  ⟨working, _, working_inv.2.2.2.2.1, working_inv.2.2.2.2.2.2.2.1, working_step.1⟩

end Sys2Proof.Tests
end

/-!
PROOF. The power Ledger: each stage of the budget computation (R55–R60), the shed timer and the posting
of a recompute (R61–R63), said once, and the statement about a recompute assembled from them.
-/

namespace Sys2Proof.Machine

/-! ### The gross supply power (R55) -/

/-- The capacities of the supplies that count as good. -/
def State.goodCapacities (s : State) : List Nat :=
  s.goodSupplies.map fun i => (s.settings.supplies.get i).capacity

/-- The two policies in one equation: only ONE with two or more good supplies keeps a reserve, and only
ONE with fewer loses redundancy. -/
theorem gross_eq (s : State) :
    s.gross = if s.settings.budget.reserve = .one ∧ 2 ≤ s.goodSupplies.length
      then (s.goodCapacities.sum - s.goodCapacities.foldr max 0, false)
      else (s.goodCapacities.sum, decide (s.settings.budget.reserve = .one)) := by
  unfold State.gross State.goodCapacities
  cases s.settings.budget.reserve <;> simp

/-- No reserve is kept under NONE, nor where fewer than two supplies are good. -/
theorem gross_eq_sum {s : State}
    (h : s.settings.budget.reserve = .none ∨ s.goodSupplies.length < 2) :
    s.gross.1 = s.goodCapacities.sum := by
  have hreserve : ¬ (s.settings.budget.reserve = .one ∧ 2 ≤ s.goodSupplies.length) := by
    rintro ⟨hone, htwo⟩
    rcases h with hnone | hfew
    · simp [hnone] at hone
    · omega
  rw [gross_eq, if_neg hreserve]

/-- Under ONE the reserve is one largest of the good supplies, where two or more are good. -/
theorem gross_eq_sum_sub {s : State} {m : Nat} (hone : s.settings.budget.reserve = .one)
    (htwo : 2 ≤ s.goodSupplies.length) (hm : m ∈ s.goodCapacities)
    (hmax : ∀ x ∈ s.goodCapacities, x ≤ m) : s.gross.1 = s.goodCapacities.sum - m := by
  have hlargest : s.goodCapacities.foldr max 0 = m :=
    le_antisymm (List.max_le_of_forall_le _ m hmax) (List.le_max_of_le hm le_rfl)
  rw [gross_eq, if_pos ⟨hone, htwo⟩, hlargest]

theorem gross_lost_iff (s : State) :
    s.gross.2 = true ↔ s.settings.budget.reserve = .one ∧ s.goodSupplies.length < 2 := by
  rw [gross_eq]
  split
  · next h => exact ⟨fun hlost => (Bool.false_ne_true hlost).elim, fun hfew => by omega⟩
  · next h =>
    rw [decide_eq_true_eq]
    exact ⟨fun hone => ⟨hone, Nat.not_le.mp fun htwo => h ⟨hone, htwo⟩⟩, And.left⟩

theorem gross_le_sum (s : State) : s.gross.1 ≤ s.goodCapacities.sum := by
  rw [gross_eq]
  split
  · exact Nat.sub_le _ _
  · exact le_rfl

/-- Four supplies of at most 30,000 each (R50). -/
theorem sum_goodCapacities_le {s : State} (h : s.SettingsOk) : s.goodCapacities.sum ≤ 120000 := by
  obtain ⟨-, -, -, -, hcap, -⟩ := h
  have heach : ∀ x ∈ s.goodCapacities, x ≤ 30000 := by
    intro x hx
    obtain ⟨i, -, rfl⟩ := List.mem_map.mp hx
    exact hcap i
  have hcount : s.goodCapacities.length ≤ 4 := by
    simpa [State.goodCapacities, State.goodSupplies] using
      List.length_filter_le s.supplyGood (List.finRange 4)
  calc s.goodCapacities.sum ≤ s.goodCapacities.length • 30000 :=
        List.sum_le_card_nsmul _ _ heach
    _ ≤ 120000 := by rw [smul_eq_mul]; omega

/-! ### The usable supply power (R56) -/

theorem computeTotals_usable (s : State) :
    s.computeTotals.usable = s.computeTotals.gross * s.settings.budget.derate / 100 := rfl

theorem usable_le_gross {s : State} (h : s.settings.budget.derate ≤ 100) :
    s.computeTotals.usable ≤ s.computeTotals.gross := by
  rw [computeTotals_usable]
  exact Nat.div_le_of_le_mul (by rw [Nat.mul_comm]; exact Nat.mul_le_mul_right _ h)

theorem usable_eq_gross {s : State} (h : s.settings.budget.derate = 100) :
    s.computeTotals.usable = s.computeTotals.gross := by
  rw [computeTotals_usable, h, Nat.mul_div_cancel _ (by decide)]

/-- The product of the derating fits where settings are in range, as the derate is at most 100 (R53). -/
theorem gross_mul_derate_le {s : State} (h : s.SettingsOk) :
    s.gross.1 * s.settings.budget.derate ≤ 12000000 := by
  have hgross : s.gross.1 ≤ 120000 := (gross_le_sum s).trans (sum_goodCapacities_le h)
  obtain ⟨-, -, -, -, -, ⟨-, hderate, -⟩, -⟩ := h
  calc s.gross.1 * s.settings.budget.derate ≤ 120000 * 100 := Nat.mul_le_mul hgross hderate
    _ = 12000000 := by norm_num

/-! ### The fan reservation (R57) -/

/-- The quotient rounded up is the one whose multiple reaches the dividend by less than the divisor. -/
theorem ceilDiv_spec (n : Nat) {d : Nat} (hd : 0 < d) :
    n ≤ ceilDiv n d * d ∧ ceilDiv n d * d < n + d := by
  have hdiv := Nat.div_add_mod' (n + d - 1) d
  have hmod := Nat.mod_lt (n + d - 1) hd
  unfold ceilDiv
  omega

/-- One fan's reservation is its draw at the duty cubed, over a million, rounded up. -/
theorem fanReservation_spec (P r : Nat) :
    P * r ^ 3 ≤ fanReservation P r * 1000000
    ∧ fanReservation P r * 1000000 < P * r ^ 3 + 1000000 := by
  have hcube : P * r ^ 3 = P * r * r * r := by ring
  rw [hcube]
  exact ceilDiv_spec _ (by decide)

/-! ### The bay allowance (R58) -/

theorem computeTotals_allowance (s : State) : s.computeTotals.allowance
    = s.computeTotals.usable - s.settings.budget.base - s.computeTotals.fans := rfl

theorem allowance_eq_zero {s : State}
    (h : s.computeTotals.usable < s.settings.budget.base + s.computeTotals.fans) :
    s.computeTotals.allowance = 0 := by
  rw [computeTotals_allowance]
  omega

/-! ### The committed power (R59) -/

theorem reservation_eq (s : State) (b : BayId) :
    s.reservation b = if (s.bay b).state = .starting then (s.profile b).surge
      else if (s.bay b).state = .ready then (s.profile b).run else 0 := by
  unfold State.reservation
  cases (s.bay b).state <;> rfl

theorem committed_eq (s : State) :
    s.committed = ((List.finRange 60).map fun b =>
      if (s.bay b).state = .starting then (s.profile b).surge
      else if (s.bay b).state = .ready then (s.profile b).run else 0).sum := by
  simp only [← reservation_eq]
  rfl

/-! ### The shed timer (R63) -/

theorem shedTimer_eq_none {total : Bool} {delay : Nat} (h : total = false ∨ delay = 0)
    (now : Option Nat) : shedTimer total delay now = none := by
  have hidle : (!total || decide (delay = 0)) = true := by simpa using h
  exact if_pos hidle

/-- With shedding called for, a running timer runs on and an idle one starts. -/
theorem shedTimer_eq_some {delay : Nat} (h : delay ≠ 0) (now : Option Nat) :
    shedTimer true delay now = some (now.getD (delay * 1000)) := by
  cases now <;> simp [shedTimer, h, Config.secondMs]

/-! ### Postings (R159) -/

theorem mem_changes_post (o : Obj) (x : PortState) : o ∈ (x.post o).changes := by
  unfold PortState.post
  dsimp only
  split
  · assumption
  · simp

/-- A conditional posting joins both ports' lists or neither. -/
theorem postIf_ports (c : Bool) (o : Obj) (s : State) :
    (postIf c o s).ports = if c = true then s.ports.map (·.post o) else s.ports := by
  cases c <;> rfl

/-! ### The recompute (R61, R62) -/

@[simp] theorem recompute_overBudget (s : State) : (recompute s).overBudget
    = decide (s.computeTotals.allowance < s.computeTotals.committed) := by
  obtain ⟨ps, h⟩ := recompute_frame s
  rw [h]

@[simp] theorem recompute_redundancyLost (s : State) :
    (recompute s).redundancyLost = s.gross.2 := by
  obtain ⟨ps, h⟩ := recompute_frame s
  rw [h]

@[simp] theorem recompute_shed (s : State) : (recompute s).shed
    = shedTimer (recompute s).overBudget s.settings.budget.shedDelay s.shed := by
  obtain ⟨ps, h⟩ := recompute_frame s
  rw [h]

/-- Beyond the totals, the two flags, the shed timer and the ports a recompute changes nothing. -/
theorem recompute_keeps (s : State) :
    recompute s = { s with
      totals := (recompute s).totals, overBudget := (recompute s).overBudget
      redundancyLost := (recompute s).redundancyLost, shed := (recompute s).shed
      ports := (recompute s).ports } := by
  obtain ⟨ps, h⟩ := recompute_frame s
  rw [h]

/-- The enclosure is posted where a flag changes, and nowhere else. -/
theorem recompute_ports (s : State) :
    (recompute s).ports
      = if (recompute s).overBudget ≠ s.overBudget ∨ (recompute s).redundancyLost ≠ s.redundancyLost
        then s.ports.map (·.post .enclosure) else s.ports := by
  rw [recompute_overBudget, recompute_redundancyLost]
  have hports : (recompute s).ports = _ := postIf_ports _ _ _
  rw [hports]
  simp only [Bool.or_eq_true, bne_iff_ne]

/-! ### The statement -/

/-- Settles O28: the totals stage by stage, then the flags, the shed timer, the postings and the frame. -/
theorem budgetRecompute : Obligations.BudgetRecompute := by
  unfold Obligations.BudgetRecompute
  refine ⟨fun s => ?_, fun s => ?_⟩
  · dsimp only
    rw [recompute_totals]
    refine ⟨gross_eq_sum, fun m hm hone htwo hmax => gross_eq_sum_sub hone htwo hm hmax, rfl,
      usable_le_gross, usable_eq_gross, gross_mul_derate_le,
      ⟨fun z => fanReservation (s.zoneCfg z).fanDraw (s.zone z).reservation,
        fun z => fanReservation_spec _ _, rfl⟩,
      fun _ => computeTotals_allowance s, allowance_eq_zero, committed_eq s, rfl⟩
  · refine ⟨by simp, by rw [recompute_redundancyLost]; exact gross_lost_iff s,
      fun hidle => ?_, fun hover hdelay => ?_, fun hflag => ?_, fun hover hlost => ?_,
      recompute_keeps s⟩
    · rw [recompute_shed]
      exact shedTimer_eq_none hidle s.shed
    · rw [recompute_shed, hover]
      exact shedTimer_eq_some hdelay s.shed
    · rw [recompute_ports, if_pos hflag]
      exact ⟨mem_changes_post _ _, mem_changes_post _ _⟩
    · rw [recompute_ports, if_neg (not_or.mpr ⟨not_not.mpr hover, not_not.mpr hlost⟩)]

end Sys2Proof.Machine

/-!
PROOF. The curve of a zone (R108): a quotient rounded up, the duty on one segment and on the whole
curve, and the statement about a curve assembled from them.
-/

namespace Sys2Proof.Machine

/-! ### A quotient rounded up -/

/-- Rounding up is the least whole number above the quotient. -/
theorem ceilDivInt_le_iff {n d m : Int} (hd : 0 < d) : ceilDivInt n d ≤ m ↔ n ≤ m * d := by
  have hdiv : -m ≤ -n / d ↔ -m * d ≤ -n := Int.le_ediv_iff_mul_le hd
  rw [Int.neg_mul] at hdiv
  unfold ceilDivInt
  omega

theorem lt_ceilDivInt_iff {n d m : Int} (hd : 0 < d) : m < ceilDivInt n d ↔ m * d < n := by
  rw [← not_le, ceilDivInt_le_iff hd, not_le]

theorem le_ceilDivInt_mul {n d : Int} (hd : 0 < d) : n ≤ ceilDivInt n d * d :=
  (ceilDivInt_le_iff hd).mp le_rfl

theorem ceilDivInt_mul_lt {n d : Int} (hd : 0 < d) : ceilDivInt n d * d < n + d := by
  have hbelow : (ceilDivInt n d - 1) * d < n := (lt_ceilDivInt_iff hd).mp (by omega)
  rw [Int.sub_mul, Int.one_mul] at hbelow
  omega

/-! ### One segment -/

/-- A step of height `h` taken `a` parts of `w` of the way stays between 0 and `h`, rounded up or not,
on a rising and on a falling segment. -/
theorem ceilDivInt_between {h a w : Int} (ha : 0 ≤ a) (haw : a < w) :
    min 0 h ≤ ceilDivInt (h * a) w ∧ ceilDivInt (h * a) w ≤ max 0 h := by
  have hw : 0 < w := by omega
  rw [← Int.sub_one_lt_iff, lt_ceilDivInt_iff hw, ceilDivInt_le_iff hw]
  rcases le_total 0 h with hrise | hfall
  · rw [min_eq_left hrise, max_eq_right hrise]
    have hstart : 0 ≤ h * a := mul_nonneg hrise ha
    have hend : h * a ≤ h * w := mul_le_mul_of_nonneg_left haw.le hrise
    constructor <;> linarith
  · rw [min_eq_right hfall, max_eq_left hfall]
    have hstart : h * a ≤ 0 := mul_nonpos_of_nonpos_of_nonneg hfall ha
    have hend : h * w ≤ h * a := mul_le_mul_of_nonpos_left haw.le hfall
    constructor <;> linarith

/-! ### The duty of a curve -/

section Duty

variable {t u x : Int} {d e : Nat} {rest : List (Int × Nat)}

theorem curveDuty_of_le (hx : x ≤ t) : curveDuty ((t, d) :: rest) x = d := by
  simp [curveDuty, hx]

@[simp] theorem curveDuty_singleton : curveDuty [(t, d)] x = d := by
  simp [curveDuty]

/-- A segment that ends at or below the curve input has no part in the duty. -/
theorem curveDuty_of_past (htu : t < u) (hx : u ≤ x) :
    curveDuty ((t, d) :: (u, e) :: rest) x = curveDuty ((u, e) :: rest) x := by
  rw [curveDuty, if_neg (by omega)]
  exact if_neg (by omega)

/-- On a segment the duty is the line's, rounded up; what stands at its first point is that point's
duty, which the line gives too. -/
theorem curveDuty_segment (ht : t ≤ x) (hu : x < u) :
    (curveDuty ((t, d) :: (u, e) :: rest) x : Int)
      = d + ceilDivInt (((e : Int) - d) * (x - t)) (u - t) := by
  rcases ht.eq_or_lt with rfl | hlt
  · rw [curveDuty_of_le le_rfl]
    simp [ceilDivInt]
  · have hduty : curveDuty ((t, d) :: (u, e) :: rest) x
        = ((d : Int) + ceilDivInt (((e : Int) - d) * (x - t)) (u - t)).toNat := by
      rw [curveDuty, if_neg (by omega)]
      exact if_pos hu
    have hlow := (ceilDivInt_between (h := (e : Int) - d) (a := x - t) (w := u - t)
      (by omega) (by omega)).1
    rw [hduty, Int.toNat_of_nonneg (by omega)]

/-- The duty on a segment lies between the duties of its two points. -/
theorem curveDuty_segment_between (ht : t ≤ x) (hu : x < u) :
    min d e ≤ curveDuty ((t, d) :: (u, e) :: rest) x
      ∧ curveDuty ((t, d) :: (u, e) :: rest) x ≤ max d e := by
  have hduty := curveDuty_segment (d := d) (e := e) (rest := rest) ht hu
  have hline := ceilDivInt_between (h := (e : Int) - d) (a := x - t) (w := u - t)
    (by omega) (by omega)
  omega

end Duty

/-- At or above a point of an ascending curve, the points before it have no part in the duty. -/
theorem curveDuty_append {t x : Int} {d : Nat} {rest : List (Int × Nat)} (ht : t ≤ x) :
    ∀ before : List (Int × Nat),
      (before ++ (t, d) :: rest).Pairwise (fun p q => p.1 < q.1) →
      curveDuty (before ++ (t, d) :: rest) x = curveDuty ((t, d) :: rest) x
  | [], _ => rfl
  | [(v, f)], hasc => curveDuty_of_past (List.rel_of_pairwise_cons hasc List.mem_cons_self) ht
  | (v, f) :: (w, g) :: before, hasc => by
    have hvw : v < w := List.rel_of_pairwise_cons hasc List.mem_cons_self
    have hwt : w < t := List.rel_of_pairwise_cons hasc.of_cons
      (List.mem_append_right before List.mem_cons_self)
    calc curveDuty ((v, f) :: (w, g) :: (before ++ (t, d) :: rest)) x
        = curveDuty ((w, g) :: (before ++ (t, d) :: rest)) x := curveDuty_of_past hvw (by omega)
      _ = curveDuty ((t, d) :: rest) x := curveDuty_append ht ((w, g) :: before) hasc.of_cons

/-- The duty lies between the least and the greatest duty of the points. -/
theorem curveDuty_between {x : Int} : ∀ c : List (Int × Nat), c ≠ [] →
    c.Pairwise (fun p q => p.1 < q.1) →
    (∃ q ∈ c, q.2 ≤ curveDuty c x) ∧ ∃ q ∈ c, curveDuty c x ≤ q.2
  | [(t, d)], _, _ => by simp
  | (t, d) :: (u, e) :: rest, _, hasc => by
    have htu : t < u := List.rel_of_pairwise_cons hasc List.mem_cons_self
    rcases lt_or_ge x t with hbelow | ht
    · rw [curveDuty_of_le hbelow.le]
      simp
    · rcases lt_or_ge x u with hu | hpast
      · obtain ⟨hlow, hhigh⟩ := curveDuty_segment_between (d := d) (e := e) (rest := rest) ht hu
        have hfirst : (t, d) ∈ (t, d) :: (u, e) :: rest := List.mem_cons_self
        have hsecond : (u, e) ∈ (t, d) :: (u, e) :: rest := by simp
        exact ⟨(min_le_iff.mp hlow).elim (⟨_, hfirst, ·⟩) (⟨_, hsecond, ·⟩),
          (le_max_iff.mp hhigh).elim (⟨_, hfirst, ·⟩) (⟨_, hsecond, ·⟩)⟩
      · rw [curveDuty_of_past htu hpast]
        obtain ⟨⟨p, hp, hlow⟩, ⟨q, hq, hhigh⟩⟩ :=
          curveDuty_between ((u, e) :: rest) (by simp) hasc.of_cons
        exact ⟨⟨p, List.mem_cons_of_mem _ hp, hlow⟩, ⟨q, List.mem_cons_of_mem _ hq, hhigh⟩⟩

theorem curveDuty_at_head {c : List (Int × Nat)} {x : Int} {q : Int × Nat} (hq : q ∈ c.head?)
    (hx : x ≤ q.1) : curveDuty c x = q.2 := by
  obtain ⟨rest, rfl⟩ := List.head?_eq_some_iff.mp hq
  exact curveDuty_of_le hx

theorem curveDuty_at_last {c : List (Int × Nat)} {x : Int} {q : Int × Nat}
    (hasc : c.Pairwise (fun p q => p.1 < q.1)) (hq : q ∈ c.getLast?) (hx : q.1 ≤ x) :
    curveDuty c x = q.2 := by
  obtain ⟨before, rfl⟩ := List.getLast?_eq_some_iff.mp hq
  rw [curveDuty_append hx before hasc, curveDuty_singleton]

/-- Between two neighbouring points the duty is on the line or less than one percent above it. -/
theorem curveDuty_rounded_up {before after : List (Int × Nat)} {t u x : Int} {d e : Nat}
    (hasc : (before ++ (t, d) :: (u, e) :: after).Pairwise (fun p q => p.1 < q.1))
    (ht : t ≤ x) (hu : x < u) :
    ((e : Int) - d) * (x - t)
        ≤ ((curveDuty (before ++ (t, d) :: (u, e) :: after) x : Int) - d) * (u - t)
      ∧ ((curveDuty (before ++ (t, d) :: (u, e) :: after) x : Int) - d) * (u - t)
        < ((e : Int) - d) * (x - t) + (u - t) := by
  have hwidth : 0 < u - t := by omega
  rw [curveDuty_append ht before hasc, curveDuty_segment ht hu, add_sub_cancel_left]
  exact ⟨le_ceilDivInt_mul hwidth, ceilDivInt_mul_lt hwidth⟩

/-! ### The curves in force -/

theorem State.SettingsOk.zoneCfg_inRange {s : State} (h : s.SettingsOk) (z : ZoneId) :
    (s.zoneCfg z).InRange := by
  obtain ⟨-, hzones, -⟩ := h
  exact hzones z

theorem ZoneSettings.InRange.curve {c : ZoneSettings} (h : c.InRange) : CurveInRange c.curve := by
  obtain ⟨-, -, -, -, -, -, -, -, -, -, -, -, -, -, hcurve⟩ := h
  exact hcurve

/-- The reset state holds the factory settings of every zone (R118). -/
theorem reset_zoneCfg (z : ZoneId) : State.reset.zoneCfg z = ZoneSettings.factory :=
  Vector.getElem_replicate z.isLt

/-! ### The statement -/

/-- Settles O41: the two ends, the segment a curve input lies on, the bounds, then the curves in force
and the manual's worked values. (`curveDuty` itself is the model's function.) -/
theorem curveDuty_spec : Obligations.CurveDuty := by
  unfold Obligations.CurveDuty
  rintro c x ⟨htwo, -, hasc, hrange⟩
  have hne : c ≠ [] := List.ne_nil_of_length_pos (by omega)
  obtain ⟨hleast, q, hq, hgreatest⟩ := curveDuty_between (x := x) c hne hasc
  obtain ⟨-, -, hduty⟩ := hrange q hq
  refine ⟨fun _ => curveDuty_at_head, fun _ => curveDuty_at_last hasc, ?_, hleast,
    ⟨q, hq, hgreatest⟩, hgreatest.trans hduty, fun s z hs => (hs.zoneCfg_inRange z).curve,
    fun z => by rw [reset_zoneCfg]; rfl, by decide, by decide⟩
  rintro before after t u d e rfl
  exact curveDuty_rounded_up hasc

end Sys2Proof.Machine

/-!
PROOF. IDENTIFY and STATUS (R162, R163): a request of the class that LOADING does not refuse, the bytes of
the two replies of 11.5, and the clearing of the link flags.
-/

namespace Sys2Proof.Machine

/-! ### Requests answered in every settings state (R157) -/

/-- A listening port's request of class ALWAYS and of right length meets no refusal before its own section. -/
theorem request_always {α : Type} {p : Port} {s : State} (h : s.Listening p) (code : Nat) (tag : Byte)
    (a : α) (act : α → State → Answer) :
    request .always code p tag (some a) act s = sendReply p code tag (act a (hear p s)) := by
  simp [request_listening h]

theorem exec_identify {p : Port} {s : State} (h : s.Listening p) (tag : Byte) :
    exec (.identify p tag []) s
      = .next (sendReply p 0x01 tag (report identifyReport (hear p s))) :=
  congrArg Host.Outcome.next (request_always h 0x01 tag () fun _ t => report identifyReport t)

theorem exec_status {p : Port} {s : State} (h : s.Listening p) (tag : Byte) :
    exec (.status p tag []) s = .next (sendReply p 0x02 tag (statusAct p () (hear p s))) :=
  congrArg Host.Outcome.next (request_always h 0x02 tag () (statusAct p))

/-! ### The bytes of the replies (11.5) -/

theorem identifyReport_eq :
    identifyReport = [0x53, 0x0A, 0x60, 0x0E, 2, 60, 4, 16, 4, 8] := by decide

theorem boolNat_decide (c : Prop) [Decidable c] : boolNat (decide c) = if c then 1 else 0 := by
  simp [boolNat]

/-- A flag at the place of weight `k` counts `k`, the flags after it twice as much each. -/
theorem mul_bits_cons (k : Nat) (b : Bool) (rest : List Bool) :
    k * bits (b :: rest) = (if b then k else 0) + 2 * k * bits rest := by
  cases b <;> simp only [bits, boolNat, if_true, Bool.false_eq_true, if_false] <;> ring

theorem bits_two (a b : Bool) :
    bits [a, b] = (if a then 1 else 0) + (if b then 2 else 0) := by
  rw [← one_mul (bits _), mul_bits_cons, mul_bits_cons]
  rfl

theorem LinkFlags.toNat_eq (f : LinkFlags) :
    f.toNat = (if f.check then 1 else 0) + (if f.gap then 2 else 0) + (if f.brk then 4 else 0)
      + (if f.overrun then 8 else 0) := by
  rw [LinkFlags.toNat, ← one_mul (bits _), mul_bits_cons, mul_bits_cons, mul_bits_cons, mul_bits_cons,
    ← Nat.add_assoc, ← Nat.add_assoc]
  rfl

/-- The fields of STATUS are none of those its own frame restarts: the silence it reports is the peer's. -/
theorem statusReport_hear (p : Port) (s : State) :
    (hear p s).statusReport p = s.statusReport p := by
  have hpeer : (hear p s).port p.peer = s.port p.peer := port_updPort_peer _ _ _
  simp only [State.statusReport, hear_port, hpeer]
  rfl

theorem statusReport_eq (p : Port) (s : State) : s.statusReport p =
    [byte (if s.controlling = p then 1 else 0),
      byte ((if (s.port p).flags.check then 1 else 0) + (if (s.port p).flags.gap then 2 else 0)
        + (if (s.port p).flags.brk then 4 else 0) + (if (s.port p).flags.overrun then 8 else 0)),
      byte (s.port p).changes.length, byte (s.port p).note.length,
      byte (if (s.port p).noteOverrun then 1 else 0), byte s.store.code,
      byte ((if s.overBudget then 1 else 0) + (if s.redundancyLost then 2 else 0))]
      ++ le16 (min ((s.port p.peer).silenceMs / 1000) 65535) := by
  rw [State.statusReport, boolNat_decide, LinkFlags.toNat_eq, bits_two]
  rfl

/-! ### The state STATUS leaves (R156, R163) -/

theorem updPort_updPort (p : Port) (f g : PortState → PortState) (s : State) :
    (s.updPort p f).updPort p g = s.updPort p (g ∘ f) := by
  cases p <;> rfl

/-- STATUS reports the flags as they stood when it was taken, and then clears them. -/
theorem statusAct_hear (p : Port) (s : State) :
    statusAct p () (hear p s) = report (s.statusReport p)
      (s.updPort p fun x => { x with
        receiver := .hunting, silenceMs := 0, flags := LinkFlags.clear }) := by
  rw [statusAct, statusReport_hear, hear, updPort_updPort]
  rfl

/-! ### The statement -/

/-- Settles O9: each request reaches its own section, LOADING or not, and answers with its report. -/
theorem identifyAndStatus : Obligations.IdentifyAndStatus := by
  unfold Obligations.IdentifyAndStatus
  intro p tag s h
  constructor
  · rw [Answers, exec_identify h, identifyReport_eq]
    rfl
  · rw [Answers, exec_status h, statusAct_hear, statusReport_eq]
    rfl

end Sys2Proof.Machine

/-!
PROOF. The facts about a step and a command's wrapper that the later parts share: a step takes the front command,
an event acts out of reset, a request that is taken reaches its own section.
-/

namespace Sys2Proof.Machine

/-! ### A step -/

theorem step_of_pending {s : State} {c : Instr} {rest : List Instr} (h : s.pending = c :: rest) :
    step s = exec c { s with pending := rest } := by
  simp [step, h]

theorem step_of_idle {s : State} (h : s.pending = []) : step s = .next (elapse s) := by
  simp [step, h]

/-! ### Events -/

theorem event_running {f : State → State} {s : State} (h : s.resetHeld = false) : event f s = f s := by
  simp [event, h]

theorem event_held {f : State → State} {s : State} (h : s.resetHeld = true) : event f s = s := by
  simp [event, h]

/-! ### Requests -/

/-- A request of right length on a port that takes requests reaches its own section, unless it is reserved to
the other port (R157). -/
theorem request_taking {α : Type} {p : Port} {s : State} (h : s.Taking p) {cls : RightsClass}
    (hc : cls = .controlling → s.controlling = p) (code : Nat) (tag : Byte) (a : α)
    (act : α → State → Answer) :
    request cls code p tag (some a) act s = sendReply p code tag (act a (hear p s)) := by
  obtain ⟨hlisten, hload⟩ := h
  have hclass : (cls = .controlling && s.controlling != p) = false := by
    by_cases hcls : cls = .controlling <;> simp [hcls, hc]
  simp [request_listening hlisten, hload, hclass]

theorem request_anyPort {α : Type} {p : Port} {s : State} (h : s.Taking p) (code : Nat) (tag : Byte) (a : α)
    (act : α → State → Answer) :
    request .anyPort code p tag (some a) act s = sendReply p code tag (act a (hear p s)) :=
  request_taking h (by simp) code tag a act

theorem request_commanding {α : Type} {p : Port} {s : State} (h : s.Commanding p) (code : Nat) (tag : Byte)
    (a : α) (act : α → State → Answer) :
    request .controlling code p tag (some a) act s = sendReply p code tag (act a (hear p s)) :=
  request_taking h.1 (fun _ => h.2) code tag a act

end Sys2Proof.Machine

/-!
PROOF. Two step lemmas fail for want of a queue in order: with the queue in any shape, a SETTLE_END can start a
bay that is itself SETTLING, and its own settle then makes it OFF without opening its switch or releasing
its reservation.
-/

namespace Sys2Proof.Machine

/-! ### A queue that holds a SETTLING bay -/

/-- A bay whose settle is due. -/
def Bay.settleDue : Bay := { Bay.reset with state := .settling, timer := .settle 0 }

/-- Insertion policy AUTO, no zone holding admissions, the settles of bays 0 and 1 due, and bay 1 in the queue
though it is SETTLING; the settle of bay 1 expires. -/
def State.queuedSettling : State :=
  { State.reset with
    pending := [.settleEnd 1 (Vector.replicate 60 0)]
    store := .ready
    settings := { Settings.factory with
      scheduler := { Settings.factory.scheduler with insertion := .auto } }
    bays := ((Vector.replicate 60 Bay.reset).set 0 Bay.settleDue).set 1 Bay.settleDue
    queue := [{ bay := 1, level := 0, origin := .insertion, bypass := 0 }]
    zones := Vector.replicate 4 { Zone.reset with blind := false } }

/-- The state after that expiry: the due settle of bay 0 is taken first, and its join admits bay 1. -/
def State.settledPowered : State :=
  settleEnd 1 (Vector.replicate 60 0) { State.queuedSettling with pending := [] }

theorem step_queuedSettling : step .queuedSettling = .next .settledPowered := by
  rw [step_of_pending (s := .queuedSettling) rfl]
  exact congrArg Host.Outcome.next (event_running rfl)

theorem switchesOk_queuedSettling : State.queuedSettling.SwitchesOk := by decide

theorem ledgerOk_queuedSettling : State.queuedSettling.LedgerOk := by decide

/-- Bay 1 has settled, waits in the queue, and its switch is closed. -/
theorem settledPowered_bay :
    (State.settledPowered.bay 1).state = .queued ∧ (State.settledPowered.bay 1).switch = true := by
  decide +kernel

/-- The totals still count the surge draw of bay 1, which no bay reserves. -/
theorem settledPowered_committed :
    State.settledPowered.totals.committed = 400 ∧ State.settledPowered.computeTotals.committed = 0 := by
  decide +kernel

/-! ### The statements -/

/-- Refutes O54: from a queue out of order the settle of bay 1 leaves it QUEUED with its switch closed. -/
theorem not_switchesFollowTheState : ¬ Obligations.SwitchesFollowTheState := by
  unfold Obligations.SwitchesFollowTheState
  intro h
  have hok := h _ _ switchesOk_queuedSettling step_queuedSettling 1
  obtain ⟨hstate, hswitch⟩ := settledPowered_bay
  rw [hswitch, hstate] at hok
  simp [BayState.powered] at hok

/-- Refutes O56: from a queue out of order the settle of bay 1 leaves its reservation in the totals. -/
theorem not_ledgerIsUpToDate : ¬ Obligations.LedgerIsUpToDate := by
  unfold Obligations.LedgerIsUpToDate
  intro h
  obtain ⟨htotals, -⟩ := h _ _ ledgerOk_queuedSettling step_queuedSettling
  obtain ⟨hheld, hnone⟩ := settledPowered_committed
  rw [htotals, hnone] at hheld
  exact absurd hheld (by decide)

end Sys2Proof.Machine

/-!
PROOF. What a command can do, said once: a command is a chain of moves, each one change of a bay record with its
effect on the spin-up queue, one change of the settings with what follows from it at once, or a change of
fields that no bay, zone or port invariant speaks of. The invariants are derived from the moves.
-/

namespace Sys2Proof.Machine

/-! ### The changes of a bay record -/

/-- The changes of a bay record that leave the spin-up queue alone, beside the settings. Under `ordered` a settle
is known to find its bay SETTLING. -/
inductive Turn (ordered : Prop) (c : Settings) (b : BayId) (y : Bay) : Bay → Prop
  | settling (m : Bool) (ms : Nat) : y.state = .empty →
      Turn ordered c b y { y with state := .settling, startMark := m, timer := .settle ms }
  | waits : (ordered → y.state = .settling) → Turn ordered c b y { y with timer := .settled }
  | identified (k : ProfileId) : (ordered → y.state = .settling) →
      Turn ordered c b y { y with
        state := .off, code := some k, profile := k, startMark := false, attempts := 0
        lastEvent := .inserted, timer := .idle }
  | emptied (ev : LastEvent) : y.state ≠ .queued → Turn ordered c b y (y.emptied ev)
  | stopped (ms : Nat) : y.state.powered → Turn ordered c b y (y.stopped ms none)
  | stoppedBack (ms : Nat) (o : Origin) (ev : LastEvent) : y.state.powered →
      Turn ordered c b y (y.stoppedBack ms o ev)
  | stoppedForRemoval (ms : Nat) : y.state.powered →
      Turn ordered c b y { y.stopped ms none with
        removalIntended := true, wasPowered := true, attention := false }
  | requeued (o : Origin) : y.state = .stopping → y.removalIntended = false →
      Turn ordered c b y { y with requeue := true, origin := some o }
  | unqueued : y.state = .stopping → Turn ordered c b y { y with requeue := false, origin := none }
  | removalAdded : y.state = .stopping → Turn ordered c b y { y with
      removalIntended := true, wasPowered := y.requeue, requeue := false, origin := none
      attention := false }
  | removalCancelled : y.state = .stopping → Turn ordered c b y { y with
      removalIntended := false, wasPowered := false, requeue := y.wasPowered || y.requeue
      origin := if y.wasPowered then some .restore else y.origin }
  | removable (w : Nat) (p : Bool) : y.state ∈ [BayState.off, .backoff, .fault, .stopping] →
      Turn ordered c b y (y.removableNow w p)
  | leftRemovable (ev : LastEvent) : y.state = .removable → Turn ordered c b y { y with
      wasPowered := false, lastEvent := ev, timer := .idle, state := .off, origin := none }
  | tripped (ms : Nat) : y.state = .starting → y.attempts ≤ (c.profiles.get y.profile).allowance →
      Turn ordered c b y { y.unpowered with
        state := .backoff, lastEvent := .tripped, timer := .backoff ms }
  | faulted (cause : FaultCause) : y.state.powered → Turn ordered c b y (y.faulted cause)
  | surged : y.state = .starting → Turn ordered c b y { y with
      state := .ready, attempts := 0, origin := none, lastEvent := .ready, timer := .idle }
  | withdrawn : y.state = .backoff → Turn ordered c b y y.withdrawn
  | stopDone : y.state = .stopping → y.removalIntended = false → y.requeue = false →
      Turn ordered c b y { y with state := .off, origin := none, lastEvent := .stopped, timer := .idle }
  | faultCleared : y.state = .fault →
      Turn ordered c b y { y with state := .off, attempts := 0, fault := none }
  | pressed : Turn ordered c b y { y with lastEvent := .button }
  | attended : y.state.takesPress → (c.bays.get b).buttonEnabled →
      Turn ordered c b y { y with attention := true, lastEvent := .button }
  | declined : Turn ordered c b y { y with attention := false }
  | indicated (p : Port) (i : IndSet) (sec : Nat) : (y.state.noCarrier && i.driveBound) = false →
      Turn ordered c b y { y with
        indications := y.indications.set p ((y.indications.get p).union i)
        locate := if i.locate then y.locate.set p (locateFor sec) else y.locate }
  | unindicated (p : Port) (i : IndSet) : Turn ordered c b y (y.unindicated p i)
  | owned (o : Option Port) : Turn ordered c b y { y with owner := o }

/-- The changes of a bay record that go with the loss of its queue entry. -/
inductive Leaves (y : Bay) : Bay → Prop
  | withdrawn : Leaves y y.withdrawn
  | removable (w : Nat) (p : Bool) : Leaves y (y.removableNow w p)
  | emptied (ev : LastEvent) : Leaves y (y.emptied ev)

/-- The record of a bay that joins the queue, before its state, origin and timer are set (R30). -/
inductive Joins (y : Bay) : Bay → Prop
  | off : y.state = .off → Joins y y
  | requested : y.state ∈ [BayState.off, .backoff] → Joins y { y with lastEvent := .queued }
  | restored (ev : LastEvent) : y.state = .removable →
      Joins y { y with wasPowered := false, lastEvent := ev, timer := .idle }
  | returned : y.state = .stopping → y.removalIntended = false →
      Joins y { y with lastEvent := .queued, requeue := false }

/-- The changes of a bay record that are no reportable change: the button debouncer, the dark timer, and the
drive temperature of a powered bay. -/
inductive Trims (y : Bay) : Bay → Prop
  | armed (a : Bool) : Trims y { y with buttonArmed := a }
  | dark (d : Option Nat) : Trims y { y with dark := d }
  | temp (v : Int) (ms : Nat) : y.state.powered → Trims y { y with temp := some ⟨clampInt (-40) 125 v, ms⟩ }

/-! ### The changes of the settings -/

/-- A port is in order: its list, and its link. -/
abbrev PortState.Ok (x : PortState) : Prop := x.ListOk ∧ x.LinkOk

/-- The settings that no bay, zone or sensor holds a copy of have been written, in range. -/
structure Rewrites (c d : Settings) : Prop where
  inRange : c.InRange → d.InRange
  bays : d.bays = c.bays
  sensorMap : d.sensorMap = c.sensorMap
  ceiling : ∀ z : ZoneId, (d.zones.get z).ceiling = (c.zones.get z).ceiling
  fanCount : ∀ z : ZoneId, (d.zones.get z).fanCount = (c.zones.get z).fanCount

/-- The sensor map and the staleness limit have been written, in range. -/
structure Remaps (c d : Settings) : Prop where
  inRange : c.InRange → d.InRange
  bays : d.bays = c.bays
  zones : d.zones = c.zones

/-- What SET BAY writes on a bay that accepts it, but for the place of its entry in the queue (R12). -/
def writeRecord (w : BayWrite) (b : BayId) (s : State) : State :=
  postBay b (s.report b) (setBay b (w.applyBay (s.bay b))
    { s with settings := { s.settings with bays := s.settings.bays.set b (w.apply (s.bayCfg b)) } })

/-- SET BAY on a bay that accepts it, the entry of a QUEUED bay of changed level moved (R12, R13). -/
def writeAndMove (w : BayWrite) (b : BayId) (s : State) : State :=
  if (s.bay b).state = .queued && (w.apply (s.bayCfg b)).level != (s.bayCfg b).level then
    { writeRecord w b s with queue := moveEntry b (w.apply (s.bayCfg b)).level s.queue }
  else writeRecord w b s

/-- The readings and the zone record of a control period, before the zone hands anything on (R104). -/
def periodRead (z : ZoneId) (inputs : Vector (Option Int) 8) (speeds : Vector (BitVec 16) 4) (s : State) :
    State :=
  let t := readSensors z inputs (superviseFans z speeds s)
  setZone z (t.periodZone z) t

/-! ### The moves -/

/-- One move of a command. The plan is written, and the bays are readied for a reload, under `wide` alone. -/
inductive Move (wide ordered : Prop) (s : State) : State → Prop
  | turn (b : BayId) (f : Bay → Bay) : Turn ordered s.settings b (s.bay b) (f (s.bay b)) →
      Move wide ordered s (changeBay b f s)
  | leave (b : BayId) (f : Bay → Bay) : (s.bay b).state = .queued → Leaves (s.bay b) (f (s.bay b)) →
      Move wide ordered s (changeBay b f (dequeue b s))
  | join (b : BayId) (o : Origin) (f : Bay → Bay) : Joins (s.bay b) (f (s.bay b)) →
      Move wide ordered s (changeBay b (fun y => { f y with state := .queued, origin := some o, timer := .idle })
        { s with queue :=
            insertEntry { bay := b, level := (s.bayCfg b).level, origin := o, bypass := 0 } s.queue })
  | admission (t : State) : admitOne s = some t → Move wide ordered s t
  | trim (b : BayId) (y : Bay) : Trims (s.bay b) y → Move wide ordered s (setBay b y s)
  | post (o : Obj) : Move wide ordered s (post o s)
  | port (p : Port) (f : PortState → PortState) : (∀ x : PortState, x.Ok → (f x).Ok) →
      Move wide ordered s (s.updPort p f)
  | other (t : State) : t = { s with
      store := t.store, storeMs := t.storeMs, memory := t.memory, saveResult := t.saveResult, gap := t.gap
      supplies := t.supplies, totals := t.totals, overBudget := t.overBudget
      redundancyLost := t.redundancyLost, collapse := t.collapse, shed := t.shed
      lightTest := t.lightTest, controlling := t.controlling } → Move wide ordered s t
  | settings (c : Settings) : Rewrites s.settings c → Move wide ordered s { s with settings := c }
  | bay (w : BayWrite) (b : BayId) : (w.profile.isSome → (s.bay b).state.takesProfile) →
      Move wide ordered s (writeAndMove w b s)
  | zone (z : ZoneId) (a : SetZoneArgs) : Move wide ordered s
      (applyZone z { s with settings := s.settings.withZone z (a.apply (s.zoneCfg z)) })
  | sensorMap (c : Settings) : Remaps s.settings c →
      Move wide ordered s (dropUnmapped { s with settings := c })
  | period (z : ZoneId) (inputs : Vector (Option Int) 8) (speeds : Vector (BitVec 16) 4) :
      Move wide ordered s (periodRead z inputs speeds s)
  | load (answer : LoadAnswer) : Move wide ordered s (takeSettings answer s)
  | plan (pl : Plan) : wide → Move wide ordered s (setPlan pl s)
  | restarted : wide → Move wide ordered s { s with bays := s.bays.map Bay.restarted }

/-- A chain of moves. -/
abbrev Chain (wide ordered : Prop) : State → State → Prop := Relation.ReflTransGen (Move wide ordered)

section Chains

variable {wide ordered : Prop} {s t u : State}

theorem Move.chain (h : Move wide ordered s t) : Chain wide ordered s t := .single h

/-- What every move keeps, a chain keeps. -/
theorem Chain.keeps {P : State → Prop} (move : ∀ s t, Move wide ordered s t → P s → P t)
    (h : Chain wide ordered s t) (hs : P s) : P t := by
  induction h with
  | refl => exact hs
  | tail _ hm ih => exact move _ _ hm ih

end Chains

end Sys2Proof.Machine

/-!
PROOF. Each shared operation is a chain of moves.
-/

namespace Sys2Proof.Machine

section Chains

variable {wide ordered : Prop} {s t : State} {b : BayId} {f : Bay → Bay}

theorem chain_turn (h : Turn ordered s.settings b (s.bay b) (f (s.bay b))) :
    Chain wide ordered s (changeBay b f s) := (Move.turn b f h).chain

theorem chain_leave (hs : (s.bay b).state = .queued) (h : Leaves (s.bay b) (f (s.bay b))) :
    Chain wide ordered s (changeBay b f (dequeue b s)) := (Move.leave b f hs h).chain

/-! ### Single fields -/

theorem chain_collapse (c : Bool) (s : State) : Chain wide ordered s { s with collapse := c } :=
  (Move.other _ rfl).chain

theorem chain_shed (d : Option Nat) (s : State) : Chain wide ordered s { s with shed := d } :=
  (Move.other _ rfl).chain

theorem chain_gap (d : Option Nat) (s : State) : Chain wide ordered s { s with gap := d } :=
  (Move.other _ rfl).chain

theorem chain_setSupply (i : SupplyId) (x : Supply) (s : State) : Chain wide ordered s (setSupply i x s) :=
  (Move.other _ rfl).chain

theorem chain_post (o : Obj) (s : State) : Chain wide ordered s (post o s) := (Move.post o).chain

/-! ### The Ledger and admission -/

theorem chain_postIf (c : Bool) (o : Obj) (s : State) : Chain wide ordered s (postIf c o s) := by
  cases c
  · exact .refl
  · exact (Move.post o).chain

theorem chain_recompute (s : State) : Chain wide ordered s (recompute s) := by
  unfold recompute
  generalize s.computeTotals = t
  generalize s.gross.2 = l
  exact .head (.other { s with
    totals := t, overBudget := decide (t.allowance < t.committed), redundancyLost := l
    shed := shedTimer (decide (t.allowance < t.committed)) s.settings.budget.shedDelay s.shed } rfl)
    (chain_postIf _ _ _)

theorem chain_opportunity (s : State) : Chain wide ordered s (opportunity s) :=
  opportunity_keeps (P := Chain wide ordered s) (fun _ t h ht => h.tail (.admission t ht)) .refl

theorem chain_opportunityIf (c : Bool) (s : State) :
    Chain wide ordered s (if c then opportunity s else s) := by
  cases c
  · exact .refl
  · exact chain_opportunity s

theorem chain_ledgerEvent (s : State) : Chain wide ordered s (ledgerEvent s) :=
  (chain_recompute s).trans (chain_opportunityIf _ _)

theorem chain_leavePower (h : Turn ordered s.settings b (s.bay b) (f (s.bay b))) :
    Chain wide ordered s (leavePower b f s) :=
  ((chain_turn h).trans (chain_recompute _)).trans (chain_opportunity _)

theorem chain_joinQueue (o : Origin) (h : Joins (s.bay b) (f (s.bay b))) :
    Chain wide ordered s (joinQueue b o f s) :=
  .head (.join b o f h) (chain_opportunity _)

/-- A fold of chains is a chain. -/
theorem chain_foldl {α : Type} {g : State → α → State} (h : ∀ t x, Chain wide ordered t (g t x)) :
    ∀ (xs : List α) (s : State), Chain wide ordered s (xs.foldl g s)
  | [], _ => .refl
  | x :: xs, s => (h s x).trans (chain_foldl h xs (g s x))

theorem chain_stopAll (s : State) : Chain wide ordered s (stopAll s) := by
  refine chain_foldl (fun t b => ?_) allBays s
  split
  · next h => exact chain_turn (by exact .stoppedBack _ _ _ h)
  · exact .refl

theorem chain_judgeCollapse (s : State) : Chain wide ordered s (judgeCollapse s) := by
  unfold judgeCollapse
  split
  · split
    · exact .refl
    · exact ((chain_stopAll s).trans (chain_collapse true _)).trans (chain_post _ _)
  · split
    · exact (chain_collapse false s).trans (chain_post _ _)
    · exact .refl

theorem chain_supplyEvent (s : State) : Chain wide ordered s (supplyEvent s) :=
  ((chain_judgeCollapse s).trans (chain_recompute _)).trans (chain_opportunityIf _ _)

/-! ### Power and removal of one bay -/

theorem onCase_eq_queue {y : Bay} : y.onCase = .queue ↔ y.state = .off := by
  unfold Bay.onCase
  cases y.state <;> cases y.removalIntended <;> cases y.requeue <;> decide

theorem onCase_eq_requeue {y : Bay} : y.onCase = .requeue
    ↔ y.state = .stopping ∧ y.removalIntended = false ∧ y.requeue = false := by
  unfold Bay.onCase
  cases y.state <;> cases y.removalIntended <;> cases y.requeue <;> decide

theorem chain_powerOnBay (o : Origin) (b : BayId) (s : State) :
    Chain wide ordered s (powerOnBay o b s).1 := by
  unfold powerOnBay
  split
  all_goals dsimp only
  · next h => exact chain_joinQueue o (by exact .requested (by simp [onCase_eq_queue.mp h]))
  · next h =>
    obtain ⟨hstop, hr, -⟩ := onCase_eq_requeue.mp h
    exact chain_turn (by exact .requeued o hstop hr)
  · exact .refl
  · exact .refl

theorem chain_powerOffBay (b : BayId) (s : State) : Chain wide ordered s (powerOffBay b s).1 := by
  unfold powerOffBay
  split
  all_goals dsimp only
  · next h => exact chain_leave h (by exact .withdrawn)
  · next h => exact chain_turn (by exact .withdrawn h)
  · next h => exact chain_leavePower (by exact .stopped _ (by simp [h, BayState.powered]))
  · next h => exact chain_leavePower (by exact .stopped _ (by simp [h, BayState.powered]))
  · next h => exact chain_turn (by exact .unqueued h)
  all_goals exact .refl

theorem chain_prepareBay (b : BayId) (s : State) : Chain wide ordered s (prepareBay b s).1 := by
  unfold prepareBay
  split
  all_goals try dsimp only
  · next h => exact chain_leavePower (by exact .stoppedForRemoval _ (by simp [h, BayState.powered]))
  · next h => exact chain_leavePower (by exact .stoppedForRemoval _ (by simp [h, BayState.powered]))
  · next h => exact chain_leave h (by exact .removable _ true)
  · next h => exact chain_turn (by exact .removable _ false (by simp [h]))
  · next h => exact chain_turn (by exact .removable _ false (by simp [h]))
  · next h => exact chain_turn (by exact .removable _ false (by simp [h]))
  · next h =>
    split
    · exact .refl
    · dsimp only
      exact chain_turn (by exact .removalAdded h)
  all_goals exact .refl

theorem chain_leaveRemovable (ev : LastEvent) (h : (s.bay b).state = .removable) :
    Chain wide ordered s (leaveRemovable b ev s) := by
  unfold leaveRemovable
  dsimp only
  split
  · exact chain_joinQueue .restore (by exact .restored ev h)
  · exact chain_turn (by exact .leftRemovable ev h)

theorem chain_cancelBay (b : BayId) (s : State) : Chain wide ordered s (cancelBay b s).1 := by
  unfold cancelBay
  split
  all_goals try dsimp only
  · next h => exact chain_leaveRemovable _ h
  · next h =>
    split
    · dsimp only
      exact chain_turn (by exact .removalCancelled h)
    · exact .refl
  · exact .refl

/-! ### Carriers, trips and buttons -/

theorem chain_presenceGone (b : BayId) (s : State) : Chain wide ordered s (presenceGone b s) := by
  unfold presenceGone
  have hne : (s.bay b).state ≠ .queued →  ∀ ev, Turn ordered s.settings b (s.bay b) ((s.bay b).emptied ev) :=
    fun h ev => .emptied ev h
  split
  · exact .refl
  · next h => exact chain_turn (hne (by simp [h]) _)
  · next h => exact chain_leavePower (hne (by simp [h]) _)
  · next h => exact chain_leavePower (hne (by simp [h]) _)
  · next h => exact chain_turn (hne (by simp [h]) _)
  · next h => exact chain_leave h (by exact .emptied _)
  all_goals next h => exact chain_turn (hne (by simp [h]) _)

theorem chain_tripBay (b : BayId) (s : State) : Chain wide ordered s (tripBay b s) := by
  unfold tripBay
  split
  · next h =>
    split
    · next ha => exact chain_leavePower (by exact .tripped _ h ha)
    · exact chain_leavePower (by exact .faulted _ (by simp [h, BayState.powered]))
  · next h => exact chain_leavePower (by exact .faulted _ (by simp [h, BayState.powered]))
  · exact .refl

theorem chain_settleStart (h : (s.bay b).state = .empty) : Chain wide ordered s (settleStart b s) :=
  chain_turn (by exact .settling _ _ h)

theorem chain_takeSettle (k : ProfileId) (h : ordered → (s.bay b).state = .settling) :
    Chain wide ordered s (takeSettle b k s) := by
  unfold takeSettle
  split
  · exact chain_turn (by exact .waits h)
  · unfold settleActions
    dsimp only
    have hoff : ∀ o, Chain wide ordered s (joinQueue b o id (changeBay b (fun y => { y with
        state := .off, code := some k, profile := k, startMark := false, attempts := 0
        lastEvent := .inserted, timer := .idle }) s)) := fun o =>
      (chain_turn (by exact .identified k h)).trans (chain_joinQueue o (by exact .off (by simp)))
    split <;> split
    · exact hoff _
    · exact chain_turn (by exact .identified k h)
    · exact hoff _
    · exact chain_turn (by exact .identified k h)

theorem chain_takeSettles (which : BayId → BayTimer → Bool) (k : Vector ProfileId 60) (s : State) :
    Chain wide ordered s (takeSettles which k s) := by
  refine chain_foldl (fun t b => ?_) allBays s
  split
  · next h =>
    simp only [Bool.and_eq_true, decide_eq_true_eq] at h
    exact chain_takeSettle _ fun _ => h.1
  · exact .refl

theorem chain_pressBay (b : BayId) (s : State) : Chain wide ordered s (pressBay b s) := by
  unfold pressBay
  split
  · next h =>
    simp only [Bool.and_eq_true] at h
    split
    · exact (chain_turn .pressed).trans (chain_prepareBay b _)
    · exact chain_turn (by exact .attended h.2 h.1)
  · exact .refl

theorem chain_press (b : BayId) (s : State) : Chain wide ordered s (press b s) := by
  unfold press
  split
  · exact .head (.trim b _ (.armed false)) (chain_pressBay b _)
  · exact .refl

/-! ### Windows and timers of a bay -/

theorem chain_surgeEnd (b : BayId) (s : State) : Chain wide ordered s (surgeEnd b s) := by
  unfold surgeEnd
  split
  · next h _ => exact chain_leavePower (by exact .surged h)
  · exact .refl

theorem chain_backoffEnd (b : BayId) (s : State) : Chain wide ordered s (backoffEnd b s) := by
  unfold backoffEnd
  split
  · next h _ => exact chain_joinQueue _ (by exact .requested (by simp [h]))
  · exact .refl

theorem chain_stopEnd (b : BayId) (s : State) : Chain wide ordered s (stopEnd b s) := by
  unfold stopEnd
  split
  · next h _ =>
    split
    · exact chain_turn (by exact .removable _ _ (by simp [h]))
    · next hr =>
      split
      · exact chain_joinQueue _ (by exact .returned h (by simpa using hr))
      · next hq => exact chain_turn (by exact .stopDone h (by simpa using hr) (by simpa using hq))
  · exact .refl

theorem chain_removalEnd (b : BayId) (s : State) : Chain wide ordered s (removalEnd b s) := by
  unfold removalEnd
  split
  · next h _ => exact chain_leaveRemovable _ h
  · exact .refl

theorem chain_gapEnd (s : State) : Chain wide ordered s (gapEnd s) := by
  unfold gapEnd
  split
  · exact (chain_gap none s).trans (chain_opportunity _)
  · exact .refl

theorem chain_locateEnd (p : Port) (b : BayId) (s : State) : Chain wide ordered s (locateEnd p b s) := by
  unfold locateEnd
  split
  · exact chain_turn (by exact .unindicated p _)
  · exact .refl

/-! ### Supplies and shedding -/

theorem chain_setGood (i : SupplyId) (g : Bool) (s : State) : Chain wide ordered s (setGood i g s) := by
  unfold setGood
  have ht : Chain wide ordered s (setSupply i { good := g, qualify := none } s) := chain_setSupply _ _ _
  dsimp only
  split
  · exact ht
  · split
    · exact (ht.tail (.post _)).trans (chain_supplyEvent _)
    · exact ht.tail (.post _)

theorem chain_lineRises (i : SupplyId) (s : State) : Chain wide ordered s (lineRises i s) := by
  unfold lineRises
  dsimp only
  split
  · exact chain_setSupply _ _ _
  · exact .refl

theorem chain_qualifyEnd (i : SupplyId) (s : State) : Chain wide ordered s (qualifyEnd i s) := by
  unfold qualifyEnd
  split
  · exact chain_setGood i true s
  · exact .refl

/-- What can be chosen for a shed is READY and sheddable (R64). -/
theorem shedChoice_spec {s : State} {b : BayId} (h : s.shedChoice = some b) :
    (s.bay b).state = .ready ∧ (s.bayCfg b).sheddable = true := by
  unfold State.shedChoice at h
  have hinv : ∀ (bs : List BayId) (best : Option BayId),
      (∀ c ∈ best, (s.bay c).state = .ready ∧ (s.bayCfg c).sheddable = true) →
      ∀ c ∈ bs.foldl (fun best b =>
        if (s.bay b).state = .ready && (s.bayCfg b).sheddable then
          match best with
          | none => some b
          | some c => if (s.bayCfg c).level ≤ (s.bayCfg b).level then some b else some c
        else best) best, (s.bay c).state = .ready ∧ (s.bayCfg c).sheddable = true := by
    intro bs
    induction bs with
    | nil => exact fun _ h => h
    | cons b bs ih =>
      intro best hbest
      refine ih _ ?_
      intro c hc
      dsimp only at hc
      split at hc
      · next hb =>
        simp only [Bool.and_eq_true, decide_eq_true_eq] at hb
        cases best with
        | none => simp only [Option.mem_def, Option.some.injEq] at hc; exact hc ▸ hb
        | some d =>
          simp only at hc
          split at hc <;> simp only [Option.mem_def, Option.some.injEq] at hc
          · exact hc ▸ hb
          · exact hbest c (by simp [hc])
      · exact hbest c hc
  exact hinv allBays none (by simp) b h

theorem chain_shedEnd (s : State) : Chain wide ordered s (shedEnd s) := by
  unfold shedEnd
  split
  · split
    · exact chain_shed _ _
    · next b hb =>
      have hpowered : (s.bay b).state.powered := by simp [(shedChoice_spec hb).1, BayState.powered]
      have hstop : Chain wide ordered { s with shed := none } (shedBay b { s with shed := none }) :=
        (chain_turn (by exact .stoppedBack _ _ _ hpowered)).trans (chain_recompute _)
      exact (((chain_shed none s).trans hstop).trans (chain_shed _ _)).trans (chain_opportunity _)
  · exact .refl

end Chains

end Sys2Proof.Machine

/-!
PROOF. What the requests write stays in range: the clamps, the settings each request stores, and the lengths of
the replies (R171).
-/

namespace Sys2Proof.Machine

/-! ### Vectors by index -/

theorem get_set_eq {α : Type} {n : Nat} (v : Vector α n) (i j : Fin n) (x : α) :
    (v.set i x).get j = if j = i then x else v.get j := by
  by_cases h : j = i
  · subst h; simp [Vector.get_eq_getElem]
  · have h' : i.val ≠ j.val := fun e => h (Fin.ext e.symm)
    simp [Vector.get_eq_getElem, h, h']

@[simp] theorem get_ofFn {α : Type} {n : Nat} (f : Fin n → α) (i : Fin n) : (Vector.ofFn f).get i = f i := by
  simp [Vector.get_eq_getElem]

@[simp] theorem get_vmap {α β : Type} {n : Nat} (f : α → β) (v : Vector α n) (i : Fin n) :
    (v.map f).get i = f (v.get i) := by
  simp [Vector.get_eq_getElem]

@[simp] theorem get_replicate {α : Type} {n : Nat} (x : α) (i : Fin n) : (Vector.replicate n x).get i = x := by
  simp [Vector.get_eq_getElem]

theorem forall_get_set {α : Type} {n : Nat} {P : α → Prop} {v : Vector α n} {i : Fin n} {x : α}
    (hx : P x) (h : ∀ j, P (v.get j)) (j : Fin n) : P ((v.set i x).get j) := by
  rw [get_set_eq]
  split
  · exact hx
  · exact h j

/-! ### Clamps -/

theorem clamp_between {lo hi : Nat} (h : lo ≤ hi) (n : Nat) : lo ≤ clamp lo hi n ∧ clamp lo hi n ≤ hi := by
  unfold clamp; omega

theorem clampInt_between {lo hi : Int} (h : lo ≤ hi) (n : Int) :
    lo ≤ clampInt lo hi n ∧ clampInt lo hi n ≤ hi := by
  unfold clampInt; omega

/-- A number written clamped lies between the bounds if the stored one did. -/
theorem writeNum_between {lo hi old : Nat} (h : lo ≤ hi) (hold : lo ≤ old ∧ old ≤ hi) (x : Option Nat) :
    lo ≤ writeNum lo hi x old ∧ writeNum lo hi x old ≤ hi := by
  cases x with
  | none => exact hold
  | some n => exact clamp_between h n

theorem writeNum_le {hi old : Nat} (hold : old ≤ hi) (x : Option Nat) : writeNum 0 hi x old ≤ hi :=
  (writeNum_between (Nat.zero_le hi) ⟨Nat.zero_le old, hold⟩ x).2

theorem writeTemp_between {old : Int} (hold : 0 ≤ old ∧ old ≤ 125) (x : Option Int) :
    0 ≤ writeTemp x old ∧ writeTemp x old ≤ 125 := by
  cases x with
  | none => exact hold
  | some t => exact clampInt_between (by decide) t

theorem storedWindow_inRange (n : Nat) : WindowInRange (storedWindow n) := by
  unfold storedWindow
  split
  · exact .inl rfl
  · exact .inr (clamp_between (by decide) n)

/-! ### Settings in range (R8, R24, R50, R53, R70, R118) -/

theorem Profile.clamped_inRange (x : Profile) : x.clamped.InRange := by
  unfold Profile.clamped clamp Profile.InRange
  dsimp only
  omega

theorem SetSchedulerArgs.apply_inRange (a : SetSchedulerArgs) {c : SchedulerSettings} (h : c.InRange) :
    (a.apply c).InRange := by
  obtain ⟨h1, h2, h3, h4, h5, h6, h7, h8, h9⟩ := h
  obtain ⟨hc, hc'⟩ := writeNum_between (by decide) ⟨h1, h2⟩ a.startCap
  obtain ⟨hb, hb'⟩ := writeNum_between (by decide) ⟨h4, h5⟩ a.bypassLimit
  obtain ⟨hs, hs'⟩ := writeNum_between (by decide) ⟨h6, h7⟩ a.settle
  obtain ⟨hk, hk'⟩ := writeNum_between (by decide) ⟨h8, h9⟩ a.backoff
  exact ⟨hc, hc', writeNum_le h3 _, hb, hb', hs, hs', hk, hk'⟩

theorem SetBudgetArgs.apply_inRange (a : SetBudgetArgs) {c : BudgetSettings} (h : c.InRange) :
    (a.apply c).InRange := by
  obtain ⟨h1, h2, h3, h4⟩ := h
  obtain ⟨hd, hd'⟩ := writeNum_between (by decide) ⟨h1, h2⟩ a.derate
  exact ⟨hd, hd', writeNum_le h3 _, writeNum_le h4 _⟩

theorem SetZoneArgs.apply_inRange (a : SetZoneArgs) {c : ZoneSettings} (h : c.InRange) :
    (a.apply c).InRange := by
  obtain ⟨h1, h2, h3, h4, h5, h6, h7, h8, h9, h10, h11, h12, h13, h14, hcurve⟩ := h
  have hfloor := writeNum_le (h1.trans h2) a.floor
  have hceil := writeNum_le h2 a.ceiling
  obtain ⟨hu, hu'⟩ := writeNum_between (by decide) ⟨h5, h6⟩ a.slewUp
  obtain ⟨hd, hd'⟩ := writeNum_between (by decide) ⟨h7, h8⟩ a.slewDown
  have hhold := writeTemp_between ⟨h9, h10.trans h11⟩ a.hold
  have hcrit := writeTemp_between ⟨h9.trans h10, h11⟩ a.critical
  refine ⟨?_, ?_, writeNum_le h3 _, writeNum_le h4 _, hu, hu', hd, hd', hhold.1, le_max_left _ _,
    max_le hhold.2 hcrit.2, writeNum_le h12 _, writeNum_le h13 _, writeNum_le h14 _, hcurve⟩ <;>
  · unfold SetZoneArgs.apply
    dsimp only
    split <;> omega

theorem ascending_iff : ∀ ps : List (Int × Nat), ascending ps = true ↔ ps.Pairwise (fun x y => x.1 < y.1)
  | [] => by simp [ascending]
  | [_] => by simp [ascending]
  | (t, d) :: (u, e) :: rest => by
    rw [ascending, Bool.and_eq_true, decide_eq_true_eq, ascending_iff, List.pairwise_cons (a := (t, d))]
    constructor
    · rintro ⟨h, hrest⟩
      refine ⟨fun q hq => ?_, hrest⟩
      rcases List.mem_cons.mp hq with rfl | hq
      · exact h
      · exact h.trans (List.rel_of_pairwise_cons hrest hq)
    · rintro ⟨h, hrest⟩
      exact ⟨h _ List.mem_cons_self, hrest⟩

/-- A curve that is good is in range once clamped (R108, R120). -/
theorem clampCurve_inRange {ps : List (Int × Nat)} (h : curveGood ps = true) : CurveInRange (clampCurve ps) := by
  simp only [curveGood, Bool.and_eq_true, decide_eq_true_eq, ascending_iff] at h
  obtain ⟨⟨hlow, hhigh⟩, hasc⟩ := h
  refine ⟨by simpa [clampCurve] using hlow, by simpa [clampCurve] using hhigh, hasc, fun q hq => ?_⟩
  obtain ⟨r, -, rfl⟩ := List.mem_map.mp hq
  obtain ⟨h1, h2⟩ := clampInt_between (show (-40 : Int) ≤ 125 by decide) r.1
  exact ⟨h1, h2, Nat.min_le_right _ _⟩

theorem ZoneSettings.reconciled_inRange {c : ZoneSettings} (h : curveGood c.curve = true) :
    c.reconciled.InRange := by
  have hhold := clampInt_between (show (0 : Int) ≤ 125 by decide) c.hold
  have hcrit := clampInt_between (show (0 : Int) ≤ 125 by decide) c.critical
  have hfloor := (clamp_between (Nat.zero_le 100) c.floor).2
  have hceil := (clamp_between (Nat.zero_le 100) c.ceiling).2
  obtain ⟨hu, hu'⟩ := clamp_between (show 1 ≤ 100 by decide) c.slewUp
  obtain ⟨hd, hd'⟩ := clamp_between (show 1 ≤ 100 by decide) c.slewDown
  exact ⟨le_max_right _ _, max_le hceil hfloor, (clamp_between (Nat.zero_le 100) _).2,
    (clamp_between (Nat.zero_le 10) _).2, hu, hu', hd, hd', hhold.1, le_max_left _ _,
    max_le hhold.2 hcrit.2, (clamp_between (Nat.zero_le 4) _).2, (clamp_between (Nat.zero_le 1000) _).2,
    (clamp_between (Nat.zero_le 10000) _).2, clampCurve_inRange h⟩

/-- A good image gives settings in range (R164). -/
theorem Image.settings_inRange {m : Image} (h : m.good = true) : m.settings.InRange := by
  have hcurves : ∀ z : ZoneId, curveGood (m.zones.get z).curve = true := by
    simp only [Image.good, Bool.and_eq_true] at h
    obtain ⟨⟨⟨⟨⟨⟨⟨⟨⟨⟨-, hz⟩, -⟩, -⟩, -⟩, -⟩, -⟩, -⟩, -⟩, -⟩, -⟩ := h
    intro z
    exact List.all_eq_true.mp hz _ (by simp [Vector.get_eq_getElem])
  have hderate := clamp_between (show 50 ≤ 100 by decide) m.derate
  have hcap := clamp_between (show 1 ≤ 16 by decide) m.startCap
  have hlimit := clamp_between (show 1 ≤ 32 by decide) m.bypassLimit
  have hsettle := clamp_between (show 2 ≤ 50 by decide) m.settle
  have hback := clamp_between (show 5 ≤ 100 by decide) m.backoff
  have hstale := clamp_between (show 10 ≤ 600 by decide) m.staleness
  have hsilence := clamp_between (show 2 ≤ 60 by decide) m.silenceLimit
  refine ⟨fun i => ?_, fun z => ?_, hstale.1, hstale.2, fun i => ?_,
    ⟨hderate.1, hderate.2, (clamp_between (Nat.zero_le _) _).2, (clamp_between (Nat.zero_le _) _).2⟩,
    ⟨hcap.1, hcap.2, (clamp_between (Nat.zero_le _) _).2, hlimit.1, hlimit.2, hsettle.1, hsettle.2, hback.1,
      hback.2⟩, storedWindow_inRange _, hsilence.1, hsilence.2⟩
  · rw [show m.settings.profiles.get i = (m.profiles.get i).clamped from get_vmap _ _ _]
    exact Profile.clamped_inRange _
  · rw [show m.settings.zones.get z = (m.zones.get z).reconciled from get_vmap _ _ _]
    exact ZoneSettings.reconciled_inRange (hcurves z)
  · have hget := get_vmap (fun x : SupplyImage => ({ installed := (yesNoOfCode x.installed).getD false
                                                     capacity := clamp 0 30000 x.capacity } : SupplySettings))
      m.supplies i
    rw [show m.settings.supplies.get i = _ from hget]
    exact (clamp_between (Nat.zero_le _) _).2

theorem Settings.factory_inRange : Settings.factory.InRange := by decide

/-! ### Lengths of replies (R171) -/

@[simp] theorem length_le16 (n : Nat) : (le16 n).length = 2 := rfl
@[simp] theorem length_le32 (n : Nat) : (le32 n).length = 4 := rfl
@[simp] theorem length_le32Int (n : Int) : (le32Int n).length = 4 := rfl

theorem length_flatMap_le {α : Type} {f : α → List Byte} {k n : Nat} (hf : ∀ x, (f x).length ≤ k)
    {l : List α} (hl : l.length ≤ n) : (l.flatMap f).length ≤ n * k := by
  rw [List.length_flatMap]
  calc (l.map fun x => (f x).length).sum ≤ (l.map fun x => (f x).length).length • k :=
        List.sum_le_card_nsmul _ _ (by simpa using fun x _ => hf x)
    _ ≤ n * k := by
        rw [List.length_map, smul_eq_mul]
        exact Nat.mul_le_mul_right k hl

@[simp] theorem length_baySummary (s : State) (b : BayId) : (s.baySummary b).length = 10 := rfl

@[simp] theorem length_bayRecord (s : State) (b : BayId) : (s.bayRecord b).length = 21 := by
  unfold State.bayRecord
  dsimp only
  split <;> simp

@[simp] theorem length_supplySummary (s : State) (i : SupplyId) : (s.supplySummary i).length = 4 := rfl

@[simp] theorem length_locateReport (x : LocateTimer) : x.report.length = 2 := by cases x <;> rfl

@[simp] theorem length_profileBlock (x : Profile) : x.block.length = 10 := rfl
@[simp] theorem length_schedulerBlock (x : SchedulerSettings) : x.block.length = 8 := rfl
@[simp] theorem length_zoneBlock (x : ZoneSettings) : x.block.length = 13 := rfl
@[simp] theorem length_budgetBlock (x : BudgetSettings) : x.block.length = 5 := rfl
@[simp] theorem length_removalBlock (x : RemovalSettings) : x.block.length = 4 := rfl
@[simp] theorem length_portBlock (x : PortSettings) : x.block.length = 2 := rfl
@[simp] theorem length_sensorBlock (x : Settings) : x.sensorBlock.length = 10 := by
  simp [Settings.sensorBlock]
@[simp] theorem length_writeBlock (w : BayWrite) : w.block.length = 5 := rfl

theorem length_changeEntry_le (s : State) (p : Port) (o : Obj) : (s.changeEntry p o).length ≤ 13 := by
  cases o <;> simp [State.changeEntry, State.summary, State.zoneSummary, State.enclosureSummary,
    State.planSummary, PortState.noteSummary]

theorem length_take_drop_le {α : Type} (l : List α) (m n : Nat) : ((l.drop m).take n).length ≤ n := by
  simp

theorem length_bayRun_le (first : BayId) (count : Nat) : (bayRun first count).length ≤ 20 :=
  (length_take_drop_le _ _ _).trans (clamp_between (by decide) _).2

theorem length_summaryReport_le (s : State) (first : BayId) (count : Nat) :
    (s.summaryReport first count).length ≤ 247 := by
  have h := length_flatMap_le (f := s.baySummary) (k := 10) (fun b => (length_baySummary s b).le)
    (length_bayRun_le first count)
  simp only [State.summaryReport, List.length_cons]
  omega

theorem length_lightReport_le (s : State) (first : BayId) (count : Nat) :
    (s.lightReport first count).length ≤ 247 := by
  have h := length_flatMap_le (f := s.lightEntry) (k := 8) (fun b => by simp [State.lightEntry])
    (length_bayRun_le first count)
  simp only [State.lightReport, List.length_append, List.length_cons, length_le16, length_locateReport,
    List.length_nil]
  omega

theorem length_queueReport_le (s : State) (start : Nat) : (s.queueReport start).length ≤ 247 := by
  have h := length_flatMap_le (f := s.entryReport) (k := 5) (fun b => by simp [State.entryReport])
    (length_take_drop_le s.queue start 40)
  simp only [State.queueReport, List.length_append, List.length_cons, length_schedulerBlock, List.length_nil]
  omega

theorem length_removalReport_le (s : State) (start : Nat) : (s.removalReport start).length ≤ 247 := by
  have hentry : ∀ b, (s.removalEntry b).length ≤ 5 := by
    intro b
    unfold State.removalEntry
    dsimp only
    split <;> simp
  have h := length_flatMap_le (f := s.removalEntry) hentry
    (length_take_drop_le (allBays.filter fun b => (s.bay b).inProtocol) start 40)
  simp only [State.removalReport, List.length_append, List.length_cons, length_removalBlock, List.length_nil]
  omega

theorem length_ledgerReport_le (s : State) : s.ledgerReport.length ≤ 247 := by
  have hsup := length_flatMap_le (l := List.finRange 4) (n := 4) (k := 5)
    (f := fun i => s.supplySummary i ++ [byte (boolNat (s.supplies.get i).qualify.isSome)])
    (fun i => by simp) (by simp)
  have hzone := length_flatMap_le (l := List.finRange 4) (n := 4) (k := 3)
    (f := fun z => byte (s.zone z).reservation :: le16 (s.fanShare z)) (fun i => by simp) (by simp)
  simp only [State.ledgerReport, List.length_append, List.length_cons, length_budgetBlock, length_le16,
    length_le32, length_le32Int, List.length_nil]
  omega

theorem length_zoneReport_le (s : State) (z : ZoneId) : (s.zoneReport z).length ≤ 247 := by
  have hfan := length_flatMap_le (l := List.finRange 4) (n := 4) (k := 5)
    (f := fun i => byte (s.fans.get (fanOf z i)).state.code :: le16 (s.fans.get (fanOf z i)).speed.toNat
      ++ [byte (s.fans.get (fanOf z i)).stallRun, byte (s.fans.get (fanOf z i)).recoveryRun])
    (fun i => by simp) (by simp)
  have hsensor := length_flatMap_le (l := List.finRange 8) (n := 8) (k := 3)
    (f := fun i => [byte (mapEntryCode (s.settings.sensorMap.get i)), tempByte (s.sensors.get i).reading,
      byte (boolNat (s.sensors.get i).valid)]) (fun i => by simp) (by simp)
  simp only [State.zoneReport, List.length_append, List.length_cons, length_zoneBlock, length_le16,
    List.length_nil, List.length_take, List.length_replicate] at *
  omega

theorem length_profileReport_le (s : State) (i : ProfileId) : (s.profileReport i).length ≤ 247 := by
  simp [State.profileReport]

theorem length_stepReport (slot : SlotId) (st : Step) : (st.report slot).length ≤ 17 := by
  simp only [Step.report, List.length_append, List.length_cons, List.length_nil, length_le16,
    List.length_take, List.length_replicate]
  omega

theorem length_stepsReport_le (s : State) (first : SlotId) (count : Nat) :
    (s.stepReport first count).length ≤ 247 := by
  have hrun : (((List.finRange 32).drop first.val).take (clamp 1 8 count)).length ≤ 8 :=
    (length_take_drop_le _ _ _).trans (clamp_between (by decide) _).2
  have h := length_flatMap_le (f := fun i => (s.plan.steps.get i).report i)
    (fun i => length_stepReport i _) hrun
  simp only [State.stepReport, List.length_append, List.length_cons, length_le16, List.length_nil]
  omega

theorem length_checkPlanReport_le (p : Port) (c : List SlotId) (s : State) :
    (checkPlanReport p c s).length ≤ 247 := by
  simp [checkPlanReport]

end Sys2Proof.Machine

/-!
PROOF. Every command but the two of the reset pin is a chain of moves.
-/

namespace Sys2Proof.Machine

section Chains

variable {wide ordered : Prop} {s t : State}

/-! ### Ports -/

theorem chain_hear (p : Port) (s : State) : Chain wide ordered s (hear p s) := by
  refine (Move.port p _ fun x h => ?_).chain
  obtain ⟨hlist, hr, hb, hn, ho, hs, hp⟩ := h
  exact ⟨hlist, rfl, fun _ => rfl, hn, ho, by simp, hp⟩

theorem chain_markOverrun (p : Port) (s : State) : Chain wide ordered s (markOverrun p s) := by
  refine (Move.port p _ fun x h => ?_).chain
  exact h

theorem chain_sendReply (p : Port) (code : Nat) (tag : Byte) {a : Answer} (h : a.payload.length ≤ 247) :
    Chain wide ordered a.state (sendReply p code tag a) := by
  refine (Move.port p _ fun x hx => ?_).chain
  obtain ⟨hlist, hr, hb, hn, ho, hs, -⟩ := hx
  refine ⟨hlist, hr, hb, hn, ho, hs, fun r hr' => ?_⟩
  simp only [Option.mem_def, Option.some.injEq] at hr'
  exact hr' ▸ h

theorem chain_endFrame (p : Port) (f : LinkFlags → LinkFlags) (s : State) :
    Chain wide ordered s (endFrame p f s) := by
  refine (Move.port p _ fun x h => ?_).chain
  obtain ⟨hlist, -, -, hn, ho, hs, hp⟩ := h
  exact ⟨hlist, rfl, fun _ => rfl, hn, ho, hs, hp⟩

theorem chain_breakBegin (p : Port) (s : State) : Chain wide ordered s
    (endFrame p (fun f => { f with brk := true }) (s.updPort p fun x => { x with inBreak := true })) := by
  have hone : endFrame p (fun f => { f with brk := true }) (s.updPort p fun x => { x with inBreak := true })
      = s.updPort p fun x => { x with
          receiver := .hunting, inBreak := true, flags := { x.flags with brk := true } } :=
    updPort_updPort _ _ _ _
  rw [hone]
  refine (Move.port p _ fun x h => ?_).chain
  obtain ⟨hlist, -, -, hn, ho, hs, hp⟩ := h
  exact ⟨hlist, rfl, fun _ => rfl, hn, ho, hs, hp⟩

theorem chain_breakEnd (p : Port) (s : State) :
    Chain wide ordered s (s.updPort p fun x => { x with inBreak := false }) := by
  refine (Move.port p _ fun x h => ?_).chain
  obtain ⟨hlist, hr, -, hn, ho, hs, hp⟩ := h
  exact ⟨hlist, hr, nofun, hn, ho, hs, hp⟩

theorem chain_replyEnd (p : Port) (s : State) :
    Chain wide ordered s (s.updPort p fun x => { x with outstanding := none }) := by
  refine (Move.port p _ fun x h => ?_).chain
  obtain ⟨hlist, hr, hb, hn, ho, hs, -⟩ := h
  exact ⟨hlist, hr, hb, hn, ho, hs, nofun⟩

theorem chain_locate (p : Port) (l : LocateTimer) (s : State) :
    Chain wide ordered s (s.updPort p fun x => { x with locate := l }) := by
  refine (Move.port p _ fun x h => ?_).chain
  exact h

theorem chain_restartedPorts (s : State) :
    Chain wide ordered s { s with ports := s.ports.map PortState.restarted } := by
  have hok : ∀ x : PortState, x.Ok → x.restarted.Ok := by
    intro x h
    obtain ⟨-, hr, hb, -, -, hs, hp⟩ := h
    exact ⟨by show Obj.all.Nodup ∧ Obj.all.length ≤ 71 ∧ true = !Obj.all.isEmpty; decide, hr, hb,
      Nat.zero_le _, nofun, hs, hp⟩
  exact .head (.port .a _ hok) (Move.port .b _ hok).chain

/-! ### Answers -/

/-- An answer is fair where its state comes by a chain of moves and its payload fits a reply frame. -/
def Fair (wide ordered : Prop) (s : State) (a : Answer) : Prop :=
  Chain wide ordered s a.state ∧ a.payload.length ≤ 247

theorem fair_refuse (r : Result) (s : State) : Fair wide ordered s (refuse r s) := ⟨.refl, Nat.zero_le _⟩

theorem fair_report {pl : List Byte} (h : Chain wide ordered s t) (hpl : pl.length ≤ 247) :
    Fair wide ordered s (report pl t) := ⟨h, hpl⟩

/-- A request is a chain where its own section's reply is (R153–R157). -/
theorem chain_requestReply {α : Type} {cls : RightsClass} {code : Nat} {p : Port} {tag : Byte} {args : Option α}
    {act : α → State → Answer}
    (h : ∀ a ∈ args, ∀ t, Chain wide ordered t (sendReply p code tag (act a t))) (s : State) :
    Chain wide ordered s (request cls code p tag args act s) := by
  have hrefuse : ∀ r t, Chain wide ordered t (sendReply p code tag (refuse r t)) := fun r t =>
    chain_sendReply p code tag (a := refuse r t) (Nat.zero_le _)
  unfold request
  split
  · exact .refl
  · dsimp only
    split
    · exact (chain_hear p s).trans (chain_markOverrun p _)
    · refine (chain_hear p s).trans ?_
      split
      · exact hrefuse _ _
      · next a =>
        split
        · exact hrefuse _ _
        · split
          · exact hrefuse _ _
          · exact h a rfl _

/-- A request is a chain where its own section answers fairly. -/
theorem chain_request {α : Type} {cls : RightsClass} {code : Nat} {p : Port} {tag : Byte} {args : Option α}
    {act : α → State → Answer} (h : ∀ a ∈ args, ∀ t, Fair wide ordered t (act a t)) (s : State) :
    Chain wide ordered s (request cls code p tag args act s) := by
  refine chain_requestReply (fun a ha t => ?_) s
  obtain ⟨hstate, hlength⟩ := h a ha t
  exact hstate.trans (chain_sendReply p code tag hlength)

theorem chain_event {f : State → State} (h : Chain wide ordered s (f s)) :
    Chain wide ordered s (event f s) := by
  unfold event
  split
  · exact .refl
  · exact h

theorem chain_lineEvent {f : State → State} (p : Port) (h : Chain wide ordered s (f s)) :
    Chain wide ordered s (lineEvent p f s) := by
  unfold lineEvent
  split
  · exact .refl
  · exact h

theorem chain_badType (p : Port) (kind tag : Byte) (s : State) :
    Chain wide ordered s (badType p kind tag s) := by
  unfold badType
  split
  · exact .refl
  · dsimp only
    split
    · exact (chain_hear p s).trans (chain_markOverrun p _)
    · exact (chain_hear p s).trans (chain_sendReply p _ tag (a := refuse .badType (hear p s)) (Nat.zero_le _))

theorem chain_settings {c : Settings} (h : Rewrites s.settings c) :
    Chain wide ordered s { s with settings := c } := (Move.settings c h).chain

/-! ### Lists of bays (R158) -/

theorem chain_takeBays {act : BayId → State → State × Option Result}
    (h : ∀ b t, Chain wide ordered t (act b t).1) :
    ∀ (bays : List Byte) (s : State), Chain wide ordered s (takeBays act bays s).1
  | [], _ => .refl
  | x :: rest, s => by
    unfold takeBays
    dsimp only
    cases bayOf x with
    | none => exact chain_takeBays h rest s
    | some b => exact (h b s).trans (chain_takeBays h rest _)

theorem length_takeBays_le (act : BayId → State → State × Option Result) :
    ∀ (bays : List Byte) (s : State), (takeBays act bays s).2.length ≤ bays.length
  | [], _ => Nat.le_refl 0
  | x :: rest, s => by
    unfold takeBays
    dsimp only
    split
    · exact (length_takeBays_le act rest _).trans (Nat.le_succ _)
    · exact Nat.succ_le_succ (length_takeBays_le act rest _)

theorem length_multiBay_le (act : BayId → State → State × Option Result) {bays : List Byte}
    (h : bays.length ≤ 16) (s : State) : (multiBay act bays s).payload.length ≤ 33 := by
  have hlist := length_flatMap_le (f := fun q : Byte × Result => [q.1, byte q.2.code]) (k := 2)
    (fun _ => by simp) ((length_takeBays_le act bays s).trans h)
  simp only [multiBay, refusedList, List.length_cons]
  omega

theorem fair_multiBay {act : BayId → State → State × Option Result} {bays : List Byte}
    (hlen : bays.length ≤ 16) (h : ∀ b t, Chain wide ordered t (act b t).1) (s : State) :
    Fair wide ordered s (multiBay act bays s) :=
  ⟨chain_takeBays h bays s, (length_multiBay_le act hlen s).trans (by decide)⟩

theorem chain_owned {act : BayId → State → State × Option Result} (p : Port)
    (h : ∀ b t, Chain wide ordered t (act b t).1) (b : BayId) (s : State) :
    Chain wide ordered s (owned p act b s).1 := by
  unfold owned
  split
  · exact h b s
  · exact .refl

theorem readBays_length {extra : Nat} {pl : List Byte} {r : List Byte × List Byte}
    (h : readBays extra pl = some r) : r.1.length ≤ 16 := by
  cases pl with
  | nil => simp [readBays] at h
  | cons c rest =>
    simp only [readBays, Option.ite_none_right_eq_some, Option.some.injEq] at h
    obtain ⟨⟨-, hc, -⟩, rfl⟩ := h
    exact (List.length_take_le _ _).trans hc

theorem readBayList_length {pl bays : List Byte} (h : readBayList pl = some bays) : bays.length ≤ 16 := by
  simp only [readBayList, Option.map_eq_some_iff] at h
  obtain ⟨r, hr, rfl⟩ := h
  exact readBays_length hr

/-- A request of a bay list alone is a chain where its action on one bay is. -/
theorem chain_bayListRequest {code : Nat} {p : Port} {tag : Byte} {pl : List Byte}
    {act : BayId → State → State × Option Result} (h : ∀ b t, Chain wide ordered t (act b t).1) (s : State) :
    Chain wide ordered s (request .anyPort code p tag (readBayList pl) (multiBay act) s) :=
  chain_request (fun _ ha t => fair_multiBay (readBayList_length ha) h t) s

/-- A query that answers its report is a chain. -/
theorem chain_query {α : Type} {cls : RightsClass} {code : Nat} {p : Port} {tag : Byte} {args : Option α}
    {f : α → State → List Byte} (h : ∀ a t, (f a t).length ≤ 247) (s : State) :
    Chain wide ordered s (request cls code p tag args (fun a t => report (f a t) t) s) :=
  chain_request (fun a _ t => fair_report .refl (h a t)) s

/-! ### Chapter 1 -/

theorem fair_bayQuery (a : Byte × Byte × Byte) (s : State) : Fair wide ordered s (bayQueryAct a s) := by
  unfold bayQueryAct
  split
  · exact fair_refuse _ _
  · split
    · exact fair_report .refl (length_summaryReport_le _ _ _)
    · split
      · exact fair_report .refl ((length_bayRecord _ _).le.trans (by decide))
      · exact fair_refuse _ _

theorem fair_readProfile (x : Byte) (s : State) : Fair wide ordered s (readProfileAct x s) := by
  unfold readProfileAct
  split
  · exact fair_refuse _ _
  · exact fair_report .refl (length_profileReport_le _ _)

theorem fair_setProfile (a : Byte × Profile) (s : State) : Fair wide ordered s (setProfileAct a s) := by
  unfold setProfileAct
  split
  · exact fair_refuse _ _
  · next i _ =>
    split
    · exact fair_refuse _ _
    · refine fair_report (chain_settings ?_)
        ((length_profileBlock _).le.trans (by decide))
      refine ⟨fun h => ?_, rfl, rfl, fun _ => rfl, fun _ => rfl⟩
      obtain ⟨hprof, hrest⟩ := h
      exact ⟨forall_get_set (P := Profile.InRange) (Profile.clamped_inRange _) hprof, hrest⟩

theorem writeBay_eq (w : BayWrite) (b : BayId) (s : State) :
    writeBay w b s = if w.profile.isSome && !(s.bay b).state.takesProfile then (s, some .wrongState)
      else (if (s.bay b).state = .queued && (w.apply (s.bayCfg b)).level != (s.bayCfg b).level
        then opportunity (writeAndMove w b s) else writeAndMove w b s, none) := by
  unfold writeBay writeAndMove
  dsimp only
  have hqueue : (writeRecord w b s).queue = s.queue := postIf_queue _ _ _
  split
  · rfl
  · split
    · exact congrArg (fun q => (opportunity { writeRecord w b s with queue := moveEntry b _ q }, none)) hqueue
    · rfl

theorem chain_writeBay (w : BayWrite) (b : BayId) (s : State) : Chain wide ordered s (writeBay w b s).1 := by
  rw [writeBay_eq]
  split
  · exact .refl
  · next h =>
    exact .head (.bay w b (by simpa using h)) (chain_opportunityIf _ _)

theorem fair_setBay (p : Port) (a : SetBayArgs) (h : a.bays.length ≤ 16) (s : State) :
    Fair wide ordered s (setBayAct p a s) := by
  unfold setBayAct
  split
  · exact fair_refuse _ _
  · next w _ =>
    have hlen := length_multiBay_le (owned p (writeBay w)) h s
    refine ⟨(fair_multiBay h (chain_owned p (chain_writeBay w)) s).1, ?_⟩
    simp only [List.length_append, length_writeBlock]
    omega

theorem readSetBay_length {pl : List Byte} {a : SetBayArgs} (h : readSetBay pl = some a) :
    a.bays.length ≤ 16 := by
  unfold readSetBay at h
  split at h
  · next hr =>
    split at h
    · cases h
      exact readBays_length hr
    · cases h
  · cases h

theorem chain_declineBay (b : BayId) (s : State) : Chain wide ordered s (declineBay b s).1 := by
  unfold declineBay
  split
  · exact .refl
  · dsimp only
    exact chain_turn (by exact .declined)

theorem chain_clearFaultBay (b : BayId) (s : State) : Chain wide ordered s (clearFaultBay b s).1 := by
  unfold clearFaultBay
  split
  · next h =>
    dsimp only
    exact chain_turn (by exact .faultCleared h)
  · exact .refl

/-! ### Chapters 2 to 4 -/

theorem fair_startQuery {f : State → Nat → List Byte} (h : ∀ t n, (f t n).length ≤ 247) (x : Byte)
    (s : State) : Fair wide ordered s (startQuery f x s) := by
  unfold startQuery
  split
  · exact fair_report .refl (h s _)
  · exact fair_refuse _ _

theorem fair_setScheduler (a : SetSchedulerArgs) (s : State) :
    Fair wide ordered s (setSchedulerAct a s) := by
  unfold setSchedulerAct
  split
  · refine fair_report ((chain_settings ?_).trans (chain_opportunityIf _ _))
      ((length_schedulerBlock _).le.trans (by decide))
    refine ⟨fun h => ?_, rfl, rfl, fun _ => rfl, fun _ => rfl⟩
    obtain ⟨h1, h2, h3, h4, h5, h6, hsched, h8⟩ := h
    exact ⟨h1, h2, h3, h4, h5, h6, a.apply_inRange hsched, h8⟩
  · exact fair_refuse _ _

theorem fair_setSupply (a : Byte × Option Nat × Option Nat) (s : State) :
    Fair wide ordered s (setSupplyAct a s) := by
  unfold setSupplyAct
  split
  · exact fair_refuse _ _
  · next i _ =>
    split
    · extract_lets old new _ t u
      have ht : Chain wide ordered s t := by
        refine chain_settings ⟨fun h => ?_, rfl, rfl, fun _ => rfl, fun _ => rfl⟩
        obtain ⟨h1, h2, h3, h4, hsup, hrest⟩ := h
        exact ⟨h1, h2, h3, h4, forall_get_set (P := fun x : SupplySettings => x.capacity ≤ 30000)
          (writeNum_le (hsup i) _) hsup, hrest⟩
      have hu : Chain wide ordered t u := by
        show Chain wide ordered t (if new = old then t else supplyEvent (post (.supply i) t))
        split
        · exact .refl
        · exact (chain_post _ _).trans (chain_supplyEvent _)
      exact fair_report (ht.trans hu) ((length_supplySummary _ _).le.trans (by decide))
    · exact fair_refuse _ _

theorem fair_setBudget (a : SetBudgetArgs) (s : State) : Fair wide ordered s (setBudgetAct a s) := by
  unfold setBudgetAct
  split
  · extract_lets old new _ t u v
    have ht : Chain wide ordered s t := by
      refine chain_settings ⟨fun h => ?_, rfl, rfl, fun _ => rfl, fun _ => rfl⟩
      obtain ⟨h1, h2, h3, h4, h5, hbudget, h7⟩ := h
      exact ⟨h1, h2, h3, h4, h5, a.apply_inRange hbudget, h7⟩
    have hu : Chain wide ordered t u := by
      show Chain wide ordered t (if new.shedDelay = old.shedDelay then t else followShedDelay t)
      split
      · exact .refl
      · exact chain_shed _ _
    have hv : Chain wide ordered u v := by
      show Chain wide ordered u (if new.reserve = old.reserve && new.derate = old.derate
        && new.base = old.base then u else ledgerEvent u)
      split
      · exact .refl
      · exact chain_ledgerEvent _
    exact fair_report ((ht.trans hu).trans hv) ((length_budgetBlock _).le.trans (by decide))
  · exact fair_refuse _ _

theorem fair_setRemoval (a : Option Nat × Option Nat × Option Nat) (s : State) :
    Fair wide ordered s (setRemovalAct a s) := by
  unfold setRemovalAct
  split
  · refine fair_report (chain_settings ?_)
      ((length_removalBlock _).le.trans (by decide))
    refine ⟨fun h => ?_, rfl, rfl, fun _ => rfl, fun _ => rfl⟩
    obtain ⟨h1, h2, h3, h4, h5, h6, h7, hwindow, h9⟩ := h
    refine ⟨h1, h2, h3, h4, h5, h6, h7, ?_, h9⟩
    dsimp only
    split
    · exact hwindow
    · exact storedWindow_inRange _
  · exact fair_refuse _ _

/-! ### Chapter 5 -/

theorem fair_lightQuery (a : Byte × Byte) (s : State) : Fair wide ordered s (lightQueryAct a s) := by
  unfold lightQueryAct
  split
  · exact fair_refuse _ _
  · exact fair_report .refl (length_lightReport_le _ _ _)

theorem chain_indicateBay (p : Port) (i : IndSet) (sec : Nat) (b : BayId) (s : State) :
    Chain wide ordered s (indicateBay p i sec b s).1 := by
  unfold indicateBay
  split
  · exact .refl
  · next h =>
    dsimp only
    exact chain_turn (by exact .indicated p i sec (by simpa using h))

theorem readSetIndication_length {pl : List Byte} {a : List Byte × IndSet × Nat}
    (h : readSetIndication pl = some a) : a.1.length ≤ 16 := by
  unfold readSetIndication at h
  split at h
  · next hr =>
    cases h
    exact readBays_length hr
  · cases h

theorem readClearIndication_length {pl : List Byte} {a : List Byte × IndSet}
    (h : readClearIndication pl = some a) : a.1.length ≤ 16 := by
  unfold readClearIndication at h
  split at h
  · next hr =>
    cases h
    exact readBays_length hr
  · cases h

theorem fair_setIndication (p : Port) (a : List Byte × IndSet × Nat) (h : a.1.length ≤ 16) (s : State) :
    Fair wide ordered s (setIndicationAct p a s) := by
  unfold setIndicationAct
  split
  · exact fair_multiBay h (chain_indicateBay p _ _) s
  · exact fair_refuse _ _

theorem fair_clearIndication (p : Port) (a : List Byte × IndSet) (h : a.1.length ≤ 16) (s : State) :
    Fair wide ordered s (clearIndicationAct p a s) := by
  unfold clearIndicationAct
  split
  · exact fair_multiBay h (fun b t => chain_turn (by exact .unindicated p _)) s
  · exact fair_refuse _ _

theorem fair_enclosureLocate (p : Port) (a : Byte × Byte × Byte) (s : State) :
    Fair wide ordered s (enclosureLocateAct p a s) := by
  unfold enclosureLocateAct
  split
  · exact fair_report (chain_locate _ _ _) (Nat.zero_le _)
  · split
    · exact fair_report (chain_locate _ _ _) (Nat.zero_le _)
    · exact fair_refuse _ _

theorem chain_enclosureLocateEnd (p : Port) (s : State) :
    Chain wide ordered s (enclosureLocateEnd p s) := by
  unfold enclosureLocateEnd
  split
  · exact chain_locate _ _ _
  · exact .refl

theorem chain_lightTestTimer (d : Option Nat) (s : State) : Chain wide ordered s { s with lightTest := d } :=
  (Move.other _ rfl).chain

theorem chain_lightTestEnd (s : State) : Chain wide ordered s (lightTestEnd s) := by
  unfold lightTestEnd
  split
  · exact (chain_lightTestTimer none s).trans (chain_post _ _)
  · exact .refl

/-! ### Chapter 6 -/

theorem fair_zoneQuery (x : Byte) (s : State) : Fair wide ordered s (zoneQueryAct x s) := by
  unfold zoneQueryAct
  split
  · exact fair_refuse _ _
  · exact fair_report .refl (length_zoneReport_le _ _)

theorem chain_takePair (q : Byte × Byte) (r : State × ReportCounts) :
    Chain wide ordered r.1 (takePair q r).1 := by
  unfold takePair
  split
  · exact .refl
  · next b _ =>
    split
    · next h => exact (Move.trim b _ (.temp _ _ h)).chain
    · exact .refl

theorem fair_reportTemps (pairs : List (Byte × Byte)) (s : State) :
    Fair wide ordered s (reportTempsAct pairs s) := by
  refine fair_report ?_ (by simp)
  generalize ({ taken := 0, notPowered := 0, outOfRange := 0 } : ReportCounts) = n
  induction pairs generalizing s n with
  | nil => exact .refl
  | cons q pairs ih =>
    rw [List.foldl_cons]
    exact (chain_takePair q (s, n)).trans (ih (takePair q (s, n)).1 (takePair q (s, n)).2)

theorem chain_handOn (z : ZoneId) (was now : State) : Chain wide ordered now (handOn z was now) := by
  unfold handOn
  dsimp only
  have ht : Chain wide ordered now
      (if (was.zone z).reservation = (now.zone z).reservation then now else recompute now) := by
    split
    · exact .refl
    · exact chain_recompute now
  exact ht.trans (chain_opportunityIf _ _)

theorem controlPeriod_eq (z : ZoneId) (inputs : Vector (Option Int) 8) (speeds : Vector (BitVec 16) 4)
    (s : State) : controlPeriod z inputs speeds s
      = handOn z s (postIf (zoneChanged z s (periodRead z inputs speeds s)) (.zone z)
          (periodRead z inputs speeds s)) := rfl

theorem chain_controlPeriod (z : ZoneId) (inputs : Vector (Option Int) 8) (speeds : Vector (BitVec 16) 4)
    (s : State) : Chain wide ordered s (controlPeriod z inputs speeds s) := by
  rw [controlPeriod_eq]
  exact .head (.period z inputs speeds) ((chain_postIf _ _ _).trans (chain_handOn z s _))

theorem fair_setZone (a : SetZoneArgs) (s : State) : Fair wide ordered s (setZoneAct a s) := by
  unfold setZoneAct
  split
  · exact fair_refuse _ _
  · next z _ =>
    dsimp only
    refine fair_report (.head (.zone z a) ?_) ((length_zoneBlock _).le.trans (by decide))
    split
    · exact .refl
    · exact chain_ledgerEvent _

/-- A zone's curve replaced by one in range. -/
theorem rewrites_curve {c : Settings} (z : ZoneId) {ps : List (Int × Nat)} (hps : CurveInRange ps) :
    Rewrites c (c.withZone z { c.zones.get z with curve := ps }) := by
  have hget : ∀ j, (c.withZone z { c.zones.get z with curve := ps }).zones.get j
      = { c.zones.get j with curve := if j = z then ps else (c.zones.get j).curve } := by
    intro j
    show (c.zones.set z _).get j = _
    rw [get_set_eq]
    split
    · next h => subst h; rfl
    · rfl
  refine ⟨fun h => ?_, rfl, rfl, fun j => by rw [hget], fun j => by rw [hget]⟩
  obtain ⟨h1, hzones, hrest⟩ := h
  refine ⟨h1, fun j => ?_, hrest⟩
  rw [hget]
  obtain ⟨c1, c2, c3, c4, c5, c6, c7, c8, c9, c10, c11, c12, c13, c14, hcurve⟩ := hzones j
  refine ⟨c1, c2, c3, c4, c5, c6, c7, c8, c9, c10, c11, c12, c13, c14, ?_⟩
  show CurveInRange (if j = z then ps else (c.zones.get j).curve)
  split
  · exact hps
  · exact hcurve

theorem fair_setCurve (a : Byte × List (Int × Nat)) (s : State) : Fair wide ordered s (setCurveAct a s) := by
  unfold setCurveAct
  split
  · exact fair_refuse _ _
  · next z _ =>
    split
    · next hgood =>
      have hcurve := clampCurve_inRange hgood
      obtain ⟨-, hlen, -⟩ := clampCurve_inRange hgood
      have hbytes := length_flatMap_le (f := fun q : Int × Nat => [tempByte (some q.1), byte q.2]) (k := 2)
        (fun _ => by simp) hlen
      refine fair_report (chain_settings (rewrites_curve z hcurve)) ?_
      simp only [List.length_cons, curveBytes]
      omega
    · exact fair_refuse _ _

theorem chain_sensorMap {c : Settings} (h : Remaps s.settings c) :
    Chain wide ordered s (dropUnmapped { s with settings := c }) := (Move.sensorMap c h).chain

theorem fair_setSensorMap (a : List (Option Nat) × Option Nat) (s : State) :
    Fair wide ordered s (setSensorMapAct a s) := by
  unfold setSensorMapAct
  split
  · refine fair_report (chain_sensorMap ?_) ((length_sensorBlock _).le.trans (by decide))
    refine ⟨fun h => ?_, rfl, rfl⟩
    obtain ⟨h1, h2, hlow, hhigh, hrest⟩ := h
    obtain ⟨h3, h4⟩ := writeNum_between (by decide) ⟨hlow, hhigh⟩ a.2
    exact ⟨h1, h2, h3, h4, hrest⟩
  · exact fair_refuse _ _

/-! ### Chapter 7 -/

theorem fair_readStep (a : Byte × Byte) (s : State) : Fair wide ordered s (readStepAct a s) := by
  unfold readStepAct
  split
  · exact fair_refuse _ _
  · exact fair_report .refl (length_stepsReport_le _ _ _)

theorem fair_withChain {act : SlotId → List SlotId → State → Answer}
    (h : ∀ i c t, Fair wide ordered t (act i c t)) (x : Byte) (s : State) :
    Fair wide ordered s (withChain act x s) := by
  unfold withChain
  split
  · exact fair_refuse _ _
  · split
    · exact fair_refuse _ _
    · split
      · exact fair_refuse _ _
      · exact h _ _ s

section Wide

variable (hw : wide)
include hw

theorem chain_plan (pl : Plan) (s : State) : Chain wide ordered s (setPlan pl s) := (Move.plan pl hw).chain

theorem fair_writeStep (a : WriteStepArgs) (s : State) : Fair wide ordered s (writeStepAct a s) := by
  unfold writeStepAct
  split
  · exact fair_refuse _ _
  · split
    · exact fair_refuse _ _
    · exact fair_report (chain_plan hw _ _) ((length_stepReport _ _).trans (by decide))

theorem chain_endStep (r : StepResult) (n : Nat) (s : State) : Chain wide ordered s (endStep r n s) := by
  unfold endStep
  split
  · exact .refl
  · dsimp only
    split
    · exact (chain_plan hw _ s).trans (chain_post _ _)
    · exact (chain_plan hw _ s).trans (chain_postIf _ _ _)

theorem chain_endWaitSettled (s : State) : Chain wide ordered s (endWaitSettled s) :=
  (chain_plan hw { s.plan with pendingSet := [], lost := 0 } s).trans (chain_endStep hw _ _ _)

theorem chain_joinPending (b : BayId) (s : State) : Chain wide ordered s (joinPending b s) := by
  unfold joinPending
  split
  · exact .refl
  · exact chain_plan hw _ s

theorem chain_stepBay (act : StepAction) (b : BayId) (s : State) :
    Chain wide ordered s (stepBay act b s).1 := by
  unfold stepBay
  split
  · cases act with
    | on =>
      show Chain wide ordered s (onStepBay b s).1
      unfold onStepBay
      split
      · exact (chain_joinPending hw b s).trans (chain_powerOnBay _ _ _)
      · exact (chain_joinPending hw b s).trans (chain_powerOnBay _ _ _)
      · exact chain_powerOnBay _ _ _
      · exact chain_powerOnBay _ _ _
    | off => exact chain_powerOffBay b s
    | remove => exact chain_prepareBay b s
    | _ => exact .refl
  · exact .refl

theorem chain_takeStep (st : Step) (s : State) : Chain wide ordered s (takeStep st s) := by
  have hbays : Chain wide ordered s (runBayStep st s) :=
    (chain_takeBays (chain_stepBay hw st.action) st.bays s).trans (chain_endStep hw _ _ _)
  unfold takeStep
  split
  · exact .refl
  · exact hbays
  · exact hbays
  · exact hbays
  · exact chain_plan hw _ s
  · split
    · exact chain_endWaitSettled hw s
    · exact chain_plan hw _ s

theorem chain_planStep (s : State) : Chain wide ordered s (planStep s) := by
  unfold planStep
  split
  · split
    · exact .refl
    · exact chain_takeStep hw _ s
  · exact .refl

theorem chain_waitEnd (s : State) : Chain wide ordered s (waitEnd s) := by
  unfold waitEnd
  split
  · exact (chain_plan hw _ s).trans (chain_endStep hw _ _ _)
  · exact .refl

theorem fair_pause (u : Unit) (s : State) : Fair wide ordered s (pauseAct u s) := by
  unfold pauseAct
  split
  · exact fair_report ((chain_plan hw _ s).trans (chain_post _ _)) (Nat.zero_le _)
  · exact fair_report .refl (Nat.zero_le _)
  all_goals exact fair_refuse _ _

theorem chain_resumePlan (s : State) : Chain wide ordered s (resumePlan s) := by
  unfold resumePlan
  extract_lets _ t
  have ht : Chain wide ordered s t := (chain_plan hw _ s).trans (chain_post _ _)
  split
  · exact ht.trans (chain_endWaitSettled hw t)
  · exact ht

theorem fair_resume (u : Unit) (s : State) : Fair wide ordered s (resumeAct u s) := by
  unfold resumeAct
  split
  · exact fair_report (chain_resumePlan hw s) (Nat.zero_le _)
  · exact fair_report .refl (Nat.zero_le _)
  all_goals exact fair_refuse _ _

omit hw in
theorem chain_abortQueued (b : BayId) (s : State) : Chain wide ordered s (abortQueued b s) := by
  rcases abortQueued_cases b s with h | ⟨hq, -, h⟩
  · rw [h]
  · rw [h]
    exact chain_leave hq (by exact .withdrawn)

omit hw in
theorem chain_abortStopping (b : BayId) (s : State) : Chain wide ordered s (abortStopping b s) := by
  rcases abortStopping_cases b s with h | ⟨hs, -, h⟩
  · rw [h]
  · rw [h]
    exact chain_turn (by exact .unqueued hs)

theorem chain_finishAbort (s : State) : Chain wide ordered s (finishAbort s) :=
  (chain_plan hw { s.plan with engine := .done, outcome := some .aborted, pendingSet := [], lost := 0 } s).trans
    (chain_post _ _)

theorem chain_abortPlan (s : State) : Chain wide ordered s (abortPlan s) := by
  unfold abortPlan
  dsimp only
  have ht : Chain wide ordered s (skipRest (s.plan.pendingSet.foldl (fun acc b => abortStopping b acc)
      (s.plan.pendingSet.foldl (fun acc b => abortQueued b acc) (enterAborting s)))) :=
    ((((chain_plan hw _ s).trans (chain_post .plan _)).trans
      (chain_foldl (fun t b => chain_abortQueued b t) _ _)).trans
      (chain_foldl (fun t b => chain_abortStopping b t) _ _)).trans (chain_plan hw _ _)
  split
  · exact ht
  · exact ht.trans (chain_finishAbort hw _)

theorem fair_abort (u : Unit) (s : State) : Fair wide ordered s (abortAct u s) := by
  unfold abortAct
  split
  · exact fair_report (chain_abortPlan hw s) (Nat.zero_le _)
  · exact fair_report .refl (Nat.zero_le _)
  all_goals exact fair_refuse _ _

end Wide

/-! ### Chapters 8 to 10 -/

theorem fair_readChanges (p : Port) (u : Unit) (s : State) : Fair wide ordered s (readChangesAct p u s) := by
  refine fair_report (Move.port p _ fun x h => ?_).chain ?_
  · obtain ⟨⟨hnodup, hlen, -⟩, hlink⟩ := h
    exact ⟨⟨hnodup.sublist (List.drop_sublist _ _), (List.drop_sublist _ _).length_le.trans hlen, rfl⟩, hlink⟩
  · have h := length_flatMap_le (f := s.changeEntry p) (length_changeEntry_le s p)
      (List.length_take_le 8 (s.port p).changes)
    simp only [List.length_cons]
    omega

theorem chain_claimBay (p : Port) (b : BayId) (s : State) : Chain wide ordered s (claimBay p b s).1 := by
  unfold claimBay
  split
  · dsimp only
    exact chain_turn (by exact .owned _)
  · split
    · exact .refl
    · exact .refl

theorem chain_releaseBay (p : Port) (b : BayId) (s : State) : Chain wide ordered s (releaseBay p b s).1 := by
  unfold releaseBay
  split
  · dsimp only
    exact chain_turn (by exact .owned _)
  · exact .refl

theorem chain_setRole (p : Port) (s : State) : Chain wide ordered s (setRole p s) :=
  .head (.other { s with controlling := p } rfl) (chain_postIf _ _ _)

/-- The peer's claims pass to the requester (R149). -/
theorem chain_takeClaims (p : Port) (s : State) : Chain wide ordered s
    ((s.ownedBy p.peer).foldl (fun acc b => changeBay b (fun y => { y with owner := some p }) acc) s) :=
  chain_foldl (fun _ _ => chain_turn (by exact .owned _)) _ _

theorem fair_takeover (hw : wide) (p : Port) (u : Unit) (s : State) :
    Fair wide ordered s (takeoverAct p u s) := by
  unfold takeoverAct
  split
  · exact fair_refuse _ _
  · refine fair_report ?_ (by simp)
    unfold takeover
    dsimp only
    refine (chain_takeClaims p s).trans (.trans ?_ (chain_setRole p _))
    split
    · exact chain_plan hw _ _
    · exact .refl

theorem readNoteBytes_length {pl note : List Byte} (h : readNoteBytes pl = some note) :
    note ≠ [] ∧ note.length ≤ 16 := by
  simp only [readNoteBytes, Option.ite_none_right_eq_some, Option.some.injEq] at h
  obtain ⟨⟨hone, hmax⟩, rfl⟩ := h
  exact ⟨List.ne_nil_of_length_pos hone, hmax⟩

/-- The number of objects bounds a list without repeats (R159). -/
theorem length_le_of_nodup {l : List Obj} (h : l.Nodup) : l.length ≤ 71 := by
  have hall : ∀ o : Obj, o ∈ Obj.all := by
    intro o
    cases o <;> simp [Obj.all, List.mem_finRange]
  exact (h.subperm fun o _ => hall o).length_le

theorem PortState.post_ok {x : PortState} (o : Obj) (h : x.Ok) : (x.post o).Ok := by
  obtain ⟨⟨hnodup, -, -⟩, hlink⟩ := h
  have hnew : (x.post o).changes.Nodup := by
    unfold PortState.post
    dsimp only
    split
    · exact hnodup
    · next hm => exact List.nodup_append.mpr ⟨hnodup, by simp, by simpa using fun a ha => ne_of_mem_of_not_mem ha hm⟩
  have hmem := mem_changes_post o x
  refine ⟨⟨hnew, length_le_of_nodup hnew, ?_⟩, hlink⟩
  cases hc : (x.post o).changes with
  | nil => simp [hc] at hmem
  | cons _ _ => rfl

theorem fair_sendNote (p : Port) (note : List Byte) (h : note ≠ [] ∧ note.length ≤ 16) (s : State) :
    Fair wide ordered s (sendNoteAct p note s) := by
  refine fair_report (.head (.port p.peer _ fun x hx => ?_)
    (Move.port p.peer _ fun x hx => PortState.post_ok _ hx).chain) (by simp)
  obtain ⟨hlist, hr, hb, -, -, hs, hp⟩ := hx
  exact ⟨hlist, hr, hb, h.2, fun _ => h.1, hs, hp⟩

/-- READ NOTE takes the slot and answers it in one change of the port. -/
theorem sendReply_readNote (p : Port) (code : Nat) (tag : Byte) (u : Unit) (s : State) :
    sendReply p code tag (readNoteAct p u s) = s.updPort p fun x => { x with
      note := [], noteOverrun := false
      outstanding := some { kind := byte code ||| 0x80, tag := tag, result := .ok
                            payload := byte x.note.length :: byte (boolNat x.noteOverrun) :: x.note } } := by
  cases p <;> rfl

theorem chain_readNote (p : Port) (code : Nat) (tag : Byte) (u : Unit) (s : State) :
    Chain wide ordered s (sendReply p code tag (readNoteAct p u s)) := by
  rw [sendReply_readNote]
  refine (Move.port p _ fun x hx => ?_).chain
  obtain ⟨hlist, hr, hb, hn, -, hs, -⟩ := hx
  refine ⟨hlist, hr, hb, Nat.zero_le _, nofun, hs, fun r hr => ?_⟩
  cases hr
  simp only [List.length_cons]
  omega

theorem fair_setPortSettings (a : Option Nat × Option Nat) (s : State) :
    Fair wide ordered s (setPortSettingsAct a s) := by
  unfold setPortSettingsAct
  split
  · refine fair_report (chain_settings ?_)
      ((length_portBlock _).le.trans (by decide))
    refine ⟨fun h => ?_, rfl, rfl, fun _ => rfl, fun _ => rfl⟩
    obtain ⟨h1, h2, h3, h4, h5, h6, h7, h8, hlow, hhigh⟩ := h
    obtain ⟨h9, h10⟩ := writeNum_between (by decide) ⟨hlow, hhigh⟩ a.2
    exact ⟨h1, h2, h3, h4, h5, h6, h7, h8, h9, h10⟩
  · exact fair_refuse _ _

theorem chain_loadComplete (answer : LoadAnswer) (k : Vector ProfileId 60) (s : State) :
    Chain wide ordered s (loadComplete answer k s) := by
  unfold loadComplete
  split
  · have hcollapse : ∀ t : State, Chain wide ordered t (reloadCollapse t) := by
      intro t
      unfold reloadCollapse
      split
      · exact chain_stopAll t
      · exact chain_judgeCollapse t
    exact (((Move.load answer).chain.trans (hcollapse _)).trans (chain_recompute _)).trans
      ((chain_takeSettles _ k _).trans (chain_opportunity _))
  · exact .refl

theorem chain_store (st : SettingsState) (ms : Nat) (r : SaveResult) (m : Option Image) (s : State) :
    Chain wide ordered s { s with store := st, storeMs := ms, saveResult := r, memory := m } :=
  (Move.other _ rfl).chain

theorem fair_save (u : Unit) (s : State) : Fair wide ordered s (saveAct u s) := by
  unfold saveAct
  split
  · exact fair_refuse _ _
  · exact fair_report ((chain_store _ _ s.saveResult s.memory s).trans (chain_post _ _)) (by simp)

theorem chain_saveEnd (o : SaveOutcome) (s : State) : Chain wide ordered s (saveEnd o s) := by
  unfold saveEnd
  split
  · cases o with
    | success => exact (chain_store _ _ _ _ s).trans (chain_post _ _)
    | failure left => exact (chain_store _ _ _ _ s).trans (chain_post _ _)
  · exact .refl

theorem fair_restart (hw : wide) (u : Unit) (s : State) : Fair wide ordered s (restartAct u s) := by
  unfold restartAct
  split
  · exact fair_refuse _ _
  · refine fair_report ?_ (Nat.zero_le _)
    exact (((chain_store (.loading true) Config.loadMs s.saveResult s.memory s).tail (.restarted hw)).trans
      (chain_plan hw s.plan.restarted _)).trans (chain_restartedPorts _)

end Chains

end Sys2Proof.Machine

/-!
PROOF. The spin-up queue: places of joins, what an admission leaves of the queue, and what a change of a bay and a
load leave of the state; every move keeps a queue that is in order (R29–R31).
-/

namespace Sys2Proof.Machine

/-! ### What a change of a bay leaves -/

section ChangeBay

variable (b : BayId) (f : Bay → Bay) (s : State)

theorem changeBay_keeps {α : Type} {g : State → α}
    (hg : ∀ (t : State) bays pl ps, g { t with bays := bays, plan := pl, ports := ps } = g t) :
    g (changeBay b f s) = g s := by
  obtain ⟨pl, ps, h⟩ := changeBay_frame b f s
  rw [h, hg]

@[simp] theorem changeBay_pending : (changeBay b f s).pending = s.pending :=
  changeBay_keeps b f s fun _ _ _ _ => rfl
@[simp] theorem changeBay_resetHeld : (changeBay b f s).resetHeld = s.resetHeld :=
  changeBay_keeps b f s fun _ _ _ _ => rfl
@[simp] theorem changeBay_settings : (changeBay b f s).settings = s.settings :=
  changeBay_keeps b f s fun _ _ _ _ => rfl
@[simp] theorem changeBay_store : (changeBay b f s).store = s.store :=
  changeBay_keeps b f s fun _ _ _ _ => rfl
@[simp] theorem changeBay_queue : (changeBay b f s).queue = s.queue :=
  changeBay_keeps b f s fun _ _ _ _ => rfl
@[simp] theorem changeBay_gap : (changeBay b f s).gap = s.gap :=
  changeBay_keeps b f s fun _ _ _ _ => rfl
@[simp] theorem changeBay_supplies : (changeBay b f s).supplies = s.supplies :=
  changeBay_keeps b f s fun _ _ _ _ => rfl
@[simp] theorem changeBay_totals : (changeBay b f s).totals = s.totals :=
  changeBay_keeps b f s fun _ _ _ _ => rfl
@[simp] theorem changeBay_overBudget : (changeBay b f s).overBudget = s.overBudget :=
  changeBay_keeps b f s fun _ _ _ _ => rfl
@[simp] theorem changeBay_zones : (changeBay b f s).zones = s.zones :=
  changeBay_keeps b f s fun _ _ _ _ => rfl
@[simp] theorem changeBay_fans : (changeBay b f s).fans = s.fans :=
  changeBay_keeps b f s fun _ _ _ _ => rfl
@[simp] theorem changeBay_sensors : (changeBay b f s).sensors = s.sensors :=
  changeBay_keeps b f s fun _ _ _ _ => rfl
@[simp] theorem changeBay_frameMs : (changeBay b f s).frame = s.frame :=
  changeBay_keeps b f s fun _ _ _ _ => rfl
@[simp] theorem changeBay_bayCfg (c : BayId) : (changeBay b f s).bayCfg c = s.bayCfg c :=
  changeBay_keeps b f s (g := fun t => t.bayCfg c) fun _ _ _ _ => rfl

theorem changeBay_bay (c : BayId) :
    (changeBay b f s).bay c = if c = b then f (s.bay b) else s.bay c := by
  split
  · next h => rw [h, changeBay_bay_same]
  · next h => rw [changeBay_bay_ne h]

end ChangeBay

theorem setBay_bay (b c : BayId) (y : Bay) (s : State) :
    (setBay b y s).bay c = if c = b then y else s.bay c := by
  split
  · next h => rw [h, bay_setBay_same]
  · next h => rw [bay_setBay_ne h]

/-! ### What an admission leaves -/

/-- An admission changes its bay and the queue, and hands the change to the Ledger, the gap, the plan and the
change lists. -/
theorem startBay_frame (b : BayId) (q : List Entry) (s : State) :
    ∃ gap totals total lost shed ps pl, startBay b q s = { s with
      bays := s.bays.set b (Bay.started (s.profile b).surgeTime (s.bay b)), queue := q, gap := gap
      totals := totals, overBudget := total, redundancyLost := lost, shed := shed, ports := ps, plan := pl } := by
  unfold startBay
  obtain ⟨pl, ps, h⟩ := changeBay_frame b (Bay.started (s.profile b).surgeTime) { s with queue := q }
  dsimp only
  rw [h]
  obtain ⟨ps', h'⟩ := recompute_frame { s with
    bays := s.bays.set b (Bay.started (s.profile b).surgeTime (s.bay b)), queue := q
    gap := gapTimer s.settings.scheduler.gap, plan := pl, ports := ps }
  exact ⟨_, _, _, _, _, _, _, h'⟩

theorem startBay_bay (b c : BayId) (q : List Entry) (s : State) : (startBay b q s).bay c
    = if c = b then Bay.started (s.profile b).surgeTime (s.bay b) else s.bay c := by
  obtain ⟨gap, totals, total, lost, shed, ps, pl, h⟩ := startBay_frame b q s
  rw [h]
  exact setBay_bay b c _ s

theorem startBay_queue (b : BayId) (q : List Entry) (s : State) : (startBay b q s).queue = q := by
  obtain ⟨gap, totals, total, lost, shed, ps, pl, h⟩ := startBay_frame b q s
  rw [h]

theorem startBay_settings (b : BayId) (q : List Entry) (s : State) :
    (startBay b q s).settings = s.settings := by
  obtain ⟨gap, totals, total, lost, shed, ps, pl, h⟩ := startBay_frame b q s
  rw [h]

/-! ### Places in the queue (R30, R31) -/

/-- A join at the front of a level group stands before the first entry of an equal or greater level (R30). -/
theorem insertFront_eq (e : Entry) (q : List Entry) :
    insertFront e q = q.takeWhile (fun x => !decide (e.level ≤ x.level)) ++
      e :: q.dropWhile (fun x => !decide (e.level ≤ x.level)) := by
  induction q with
  | nil => rfl
  | cons x q ih =>
    unfold insertFront
    split
    · next h => simp [h]
    · next h => simp [Fin.not_le.mp h, ih]

/-- The entries of a queue ascend by level. -/
abbrev QueueSorted (q : List Entry) : Prop := q.Pairwise (fun x y => x.level ≤ y.level)

theorem insertEnd_perm (e : Entry) (q : List Entry) : (insertEnd e q).Perm (e :: q) := by
  rw [insertEnd_eq]
  exact List.perm_middle.trans (by rw [List.takeWhile_append_dropWhile])

theorem insertFront_perm (e : Entry) (q : List Entry) : (insertFront e q).Perm (e :: q) := by
  rw [insertFront_eq]
  exact List.perm_middle.trans (by rw [List.takeWhile_append_dropWhile])

theorem insertEntry_perm (e : Entry) (q : List Entry) : (insertEntry e q).Perm (e :: q) := by
  unfold insertEntry
  split
  · exact insertFront_perm e q
  · exact insertEnd_perm e q

/-- An entry put before the first one that it does not follow leaves an ascending queue ascending. -/
theorem insertEnd_sorted {e : Entry} {q : List Entry} (h : QueueSorted q) : QueueSorted (insertEnd e q) := by
  induction q with
  | nil => exact List.pairwise_singleton _ _
  | cons x q ih =>
    obtain ⟨hx, hq⟩ := List.pairwise_cons.mp h
    unfold insertEnd
    split
    · next hlt =>
      refine List.pairwise_cons.mpr ⟨fun y hy => ?_, h⟩
      rcases List.mem_cons.mp hy with rfl | hy
      · exact hlt.le
      · exact hlt.le.trans (hx y hy)
    · next hge =>
      refine List.pairwise_cons.mpr ⟨fun y hy => ?_, ih hq⟩
      rcases List.mem_cons.mp ((insertEnd_perm e q).mem_iff.mp hy) with rfl | hy
      · exact Fin.not_lt.mp hge
      · exact hx y hy

theorem insertFront_sorted {e : Entry} {q : List Entry} (h : QueueSorted q) :
    QueueSorted (insertFront e q) := by
  induction q with
  | nil => exact List.pairwise_singleton _ _
  | cons x q ih =>
    obtain ⟨hx, hq⟩ := List.pairwise_cons.mp h
    unfold insertFront
    split
    · next hle =>
      refine List.pairwise_cons.mpr ⟨fun y hy => ?_, h⟩
      rcases List.mem_cons.mp hy with rfl | hy
      · exact hle
      · exact hle.trans (hx y hy)
    · next hlt =>
      refine List.pairwise_cons.mpr ⟨fun y hy => ?_, ih hq⟩
      rcases List.mem_cons.mp ((insertFront_perm e q).mem_iff.mp hy) with rfl | hy
      · exact (Fin.not_le.mp hlt).le
      · exact hx y hy

theorem insertEntry_sorted {e : Entry} {q : List Entry} (h : QueueSorted q) :
    QueueSorted (insertEntry e q) := by
  unfold insertEntry
  split
  · exact insertFront_sorted h
  · exact insertEnd_sorted h

theorem foldl_insertEnd_perm (q acc : List Entry) :
    (q.foldl (fun acc e => insertEnd e acc) acc).Perm (q ++ acc) := by
  induction q generalizing acc with
  | nil => rfl
  | cons e q ih =>
    exact (ih _).trans (((insertEnd_perm e acc).append_left q).trans List.perm_middle)

theorem sortQueue_perm (q : List Entry) : (sortQueue q).Perm q := by
  simpa [sortQueue] using foldl_insertEnd_perm q []

theorem sortQueue_sorted (q : List Entry) : QueueSorted (sortQueue q) :=
  List.foldlRecOn q _ List.Pairwise.nil fun _ h _ _ => insertEnd_sorted h

theorem removeEntry_sorted {b : BayId} {q : List Entry} (h : QueueSorted q) : QueueSorted (removeEntry b q) :=
  h.filter _

/-- In a queue without repeats the removal of a bay's entry is that of the one entry. -/
theorem removeEntry_middle {before after : List Entry} {e : Entry}
    (h : ((before ++ e :: after).map (·.bay)).Nodup) :
    removeEntry e.bay (before ++ e :: after) = before ++ after := by
  simp only [List.map_append, List.map_cons, List.nodup_middle, List.nodup_cons, List.mem_append, List.mem_map,
    not_or, not_exists, not_and] at h
  obtain ⟨⟨hbefore, hafter⟩, -⟩ := h
  unfold removeEntry
  rw [List.filter_append, List.filter_cons, if_neg (by simp), List.filter_eq_self.mpr, List.filter_eq_self.mpr]
  · simpa using fun x hx => hafter x hx
  · simpa using fun x hx => hbefore x hx

/-! ### What the candidate leaves of the queue (R35–R37) -/

/-- An entry that is passed over gains a bypass count where it is eligible (R36). -/
def passOver (s : State) (x : Entry) : Entry :=
  if s.eligible x then { x with bypass := min (x.bypass + 1) 32 } else x

@[simp] theorem passOver_bay (s : State) (x : Entry) : (passOver s x).bay = x.bay := by
  unfold passOver; split <;> rfl

@[simp] theorem passOver_level (s : State) (x : Entry) : (passOver s x).level = x.level := by
  unfold passOver; split <;> rfl

@[simp] theorem passOver_origin (s : State) (x : Entry) : (passOver s x).origin = x.origin := by
  unfold passOver; split <;> rfl

theorem passOver_bypass_le {s : State} {x : Entry} (h : x.bypass ≤ 32) : (passOver s x).bypass ≤ 32 := by
  unfold passOver
  split
  · exact Nat.min_le_right _ _
  · exact h

/-- The scan of FILL mode takes the first eligible entry that fits out of the queue, and passes over those
before it. -/
theorem scanFill_eq_some {s : State} {e : Entry} : ∀ {q r : List Entry}, scanFill s q = some (e, r) →
    ∃ before after, q = before ++ e :: after ∧ r = before.map (passOver s) ++ after
      ∧ ∀ x ∈ before, ¬ (s.eligible x = true ∧ s.fits x = true)
  | [], _, h => by simp [scanFill] at h
  | x :: q, r, h => by
    unfold scanFill at h
    split at h
    · cases h
      exact ⟨[], q, rfl, rfl, nofun⟩
    · next hx =>
      obtain ⟨⟨e', r'⟩, hrest, heq⟩ := Option.map_eq_some_iff.mp h
      cases heq
      obtain ⟨before, after, rfl, rfl, hbefore⟩ := scanFill_eq_some hrest
      refine ⟨x :: before, after, rfl, rfl, fun y hy => ?_⟩
      rcases List.mem_cons.mp hy with rfl | hy
      · simpa using hx
      · exact hbefore y hy

/-- Whatever the mode, the candidate's admission takes its one entry out of the queue; the entries before it may
gain bypass counts. -/
theorem candidate_leaves {s : State} {e : Entry} {r : List Entry} (h : s.candidate = some (e, r))
    (hnodup : (s.queue.map (·.bay)).Nodup) : ∃ before after, s.queue = before ++ e :: after
      ∧ (r = before ++ after ∨ r = before.map (passOver s) ++ after) := by
  have hsole : ∀ cond, chooseSole s cond = some (e, r) → ∃ before after, s.queue = before ++ e :: after
      ∧ (r = before ++ after ∨ r = before.map (passOver s) ++ after) := by
    intro cond hc
    obtain ⟨hm, -, -, hr⟩ := chooseSole_spec hc
    obtain ⟨before, after, hq⟩ := List.append_of_mem hm
    rw [hq] at hnodup hr
    exact ⟨before, after, hq, .inl (hr.trans (removeEntry_middle hnodup))⟩
  unfold State.candidate at h
  split at h
  · exact hsole _ h
  · split at h
    · exact hsole _ h
    · obtain ⟨before, after, hq, hr, -⟩ := scanFill_eq_some h
      exact ⟨before, after, hq, .inr hr⟩

/-! ### A queue in order -/

section QueueOk

variable {s t : State} {b : BayId}

/-- The queue stays in order where neither it nor what it copies of the bays changes. -/
theorem queueOk_of_same (h : s.QueueOk) (hqueue : t.queue = s.queue)
    (hlevel : ∀ c, (t.bayCfg c).level = (s.bayCfg c).level)
    (hstate : ∀ c, (t.bay c).state = .queued ↔ (s.bay c).state = .queued)
    (horigin : ∀ c, (s.bay c).state = .queued → (t.bay c).origin = (s.bay c).origin) : t.QueueOk := by
  obtain ⟨hmem, hnodup, hentry, hsorted⟩ := h
  refine ⟨fun c => by rw [hstate, hqueue, hmem], by rwa [hqueue], fun e he => ?_, by rwa [hqueue]⟩
  rw [hqueue] at he
  have hq : (s.bay e.bay).state = .queued := (hmem e.bay).mpr (List.mem_map_of_mem he)
  obtain ⟨h1, h2, h3⟩ := hentry e he
  exact ⟨by rw [hlevel, h1], by rw [horigin _ hq, h2], h3⟩

/-- The queue stays in order where one entry goes with its bay's leaving QUEUED, the entries left keeping all but
their bypass counts. -/
theorem queueOk_of_leave (h : s.QueueOk) {before after : List Entry} {e : Entry} {g : Entry → Entry}
    (hg : ∀ x, (g x).bay = x.bay ∧ (g x).level = x.level ∧ (g x).origin = x.origin
      ∧ (x.bypass ≤ 32 → (g x).bypass ≤ 32))
    (hs : s.queue = before ++ e :: after) (ht : t.queue = before.map g ++ after)
    (hcfg : ∀ c, (t.bayCfg c).level = (s.bayCfg c).level)
    (hb : (t.bay e.bay).state ≠ .queued) (hne : ∀ c, c ≠ e.bay → t.bay c = s.bay c) : t.QueueOk := by
  obtain ⟨hmem, hnodup, hentry, hsorted⟩ := h
  rw [hs] at hnodup hsorted
  have hbays : t.queue.map (·.bay) = (before ++ after).map (·.bay) := by
    rw [ht, List.map_append, List.map_append, List.map_map]
    exact congrArg (· ++ _) (List.map_congr_left fun x _ => (hg x).1)
  have hnot : e.bay ∉ (before ++ after).map (·.bay) := by
    simp only [List.map_append, List.map_cons, List.nodup_middle, List.nodup_cons] at hnodup
    simpa using hnodup.1
  refine ⟨fun c => ?_, ?_, fun x hx => ?_, ?_⟩
  · rw [hbays]
    by_cases hc : c = e.bay
    · rw [hc]
      exact ⟨fun h => absurd h hb, fun h => absurd h hnot⟩
    · rw [hne c hc, hmem c, hs]
      simp [hc]
  · rw [hbays]
    simp only [List.map_append, List.map_cons, List.nodup_middle, List.nodup_cons] at hnodup
    simpa using hnodup.2
  · have hold : ∃ y ∈ before ++ after, x.bay = y.bay ∧ x.level = y.level ∧ x.origin = y.origin
        ∧ (y.bypass ≤ 32 → x.bypass ≤ 32) := by
      rw [ht] at hx
      rcases List.mem_append.mp hx with hx | hx
      · obtain ⟨y, hy, rfl⟩ := List.mem_map.mp hx
        exact ⟨y, List.mem_append_left _ hy, hg y⟩
      · exact ⟨x, List.mem_append_right _ hx, rfl, rfl, rfl, id⟩
    obtain ⟨y, hy, hbay, hlevel, horigin, hbypass⟩ := hold
    obtain ⟨h1, h2, h3⟩ := hentry y (by rw [hs]; simp only [List.mem_append, List.mem_cons] at hy ⊢; tauto)
    have hxb : x.bay ≠ e.bay := fun h => hnot (h ▸ hbay ▸ List.mem_map_of_mem hy)
    exact ⟨by rw [hlevel, h1, hbay, hcfg], by rw [hne _ hxb, hbay, h2, horigin], hbypass h3⟩
  · have hlevels : t.queue.map (·.level) = (before ++ after).map (·.level) := by
      rw [ht, List.map_append, List.map_append, List.map_map]
      exact congrArg (· ++ _) (List.map_congr_left fun x _ => (hg x).2.1)
    have hrest : QueueSorted (before ++ after) :=
      hsorted.sublist (List.Sublist.append_left (List.sublist_cons_self _ _) _)
    have h' := List.pairwise_map.mpr hrest
    rw [← hlevels] at h'
    exact List.pairwise_map.mp h'

/-- The queue stays in order where a bay that was not QUEUED joins it. -/
theorem queueOk_of_join (h : s.QueueOk) {e : Entry} (he : e.level = (s.bayCfg e.bay).level ∧ e.bypass ≤ 32)
    (hold : (s.bay e.bay).state ≠ .queued) (ht : t.queue = insertEntry e s.queue)
    (hcfg : ∀ c, (t.bayCfg c).level = (s.bayCfg c).level)
    (hb : (t.bay e.bay).state = .queued ∧ (t.bay e.bay).origin = some e.origin)
    (hne : ∀ c, c ≠ e.bay → t.bay c = s.bay c) : t.QueueOk := by
  obtain ⟨hmem, hnodup, hentry, hsorted⟩ := h
  have hperm : t.queue.Perm (e :: s.queue) := ht ▸ insertEntry_perm e s.queue
  have hnew : e.bay ∉ s.queue.map (·.bay) := fun h => hold ((hmem _).mpr h)
  refine ⟨fun c => ?_, ?_, fun x hx => ?_, by rw [ht]; exact insertEntry_sorted hsorted⟩
  · rw [(hperm.map _).mem_iff, List.map_cons, List.mem_cons]
    by_cases hc : c = e.bay
    · simp [hc, hb.1]
    · rw [hne c hc, hmem c]
      simp [hc]
  · rw [(hperm.map _).nodup_iff, List.map_cons, List.nodup_cons]
    exact ⟨hnew, hnodup⟩
  · rcases List.mem_cons.mp (hperm.mem_iff.mp hx) with rfl | hx
    · exact ⟨by rw [hcfg, he.1], hb.2, he.2⟩
    · obtain ⟨h1, h2, h3⟩ := hentry x hx
      have hxb : x.bay ≠ e.bay := fun h => hnew (h ▸ List.mem_map_of_mem hx)
      exact ⟨by rw [hcfg, h1], by rw [hne _ hxb, h2], h3⟩

/-- The queue is in order again where every entry takes its bay's level and the whole is sorted (R31). -/
theorem queueOk_of_resort (h : s.QueueOk) (ht : t.queue = sortQueue (s.queue.map t.relevel))
    (hbay : ∀ c, (t.bay c).state = (s.bay c).state ∧ (t.bay c).origin = (s.bay c).origin) : t.QueueOk := by
  obtain ⟨hmem, hnodup, hentry, hsorted⟩ := h
  have hperm : t.queue.Perm (s.queue.map t.relevel) := ht ▸ sortQueue_perm _
  have hrelevel : ∀ x : Entry, (t.relevel x).bay = x.bay ∧ (t.relevel x).origin = x.origin
      ∧ (t.relevel x).level = (t.bayCfg x.bay).level ∧ (x.bypass ≤ 32 → (t.relevel x).bypass ≤ 32) := by
    intro x
    unfold State.relevel
    dsimp only
    split
    · next hl => exact ⟨rfl, rfl, hl, id⟩
    · exact ⟨rfl, rfl, rfl, fun _ => Nat.zero_le _⟩
  have hbays : (s.queue.map t.relevel).map (·.bay) = s.queue.map (·.bay) := by
    rw [List.map_map]
    exact List.map_congr_left fun x _ => (hrelevel x).1
  refine ⟨fun c => ?_, ?_, fun x hx => ?_, by rw [ht]; exact sortQueue_sorted _⟩
  · rw [(hbay c).1, hmem, (hperm.map _).mem_iff, hbays]
  · rwa [(hperm.map _).nodup_iff, hbays]
  · obtain ⟨y, hy, rfl⟩ := List.mem_map.mp (hperm.mem_iff.mp hx)
    obtain ⟨hb, ho, hl, hp⟩ := hrelevel y
    obtain ⟨-, h2, h3⟩ := hentry y hy
    exact ⟨by rw [hb, hl], by rw [hb, (hbay _).2, h2, ho], hp h3⟩

end QueueOk

end Sys2Proof.Machine

/-!
PROOF. What the compound moves leave of the state: the writing of a bay's settings, a zone's settings, a control
period's readings and a load; and the moves keep a queue that is in order.
-/

namespace Sys2Proof.Machine

/-! ### Folds over bays -/

/-- Writing the bays of a list one after another writes each of them once. -/
theorem foldl_bay {g : State → BayId → State} {h : BayId → Bay → Bay} {P : State → Prop}
    (keep : ∀ t b, P t → P (g t b)) (write : ∀ t b c, P t → (g t b).bay c = if c = b then h b (t.bay b) else t.bay c) :
    ∀ (bs : List BayId) (s : State), P s → bs.Nodup →
      ∀ c, (bs.foldl g s).bay c = if c ∈ bs then h c (s.bay c) else s.bay c
  | [], _, _, _, _ => by simp
  | b :: bs, s, hs, hnodup, c => by
    obtain ⟨hb, hbs⟩ := List.nodup_cons.mp hnodup
    rw [List.foldl_cons, foldl_bay keep write bs _ (keep s b hs) hbs c, write s b c hs]
    by_cases hc : c = b
    · subst hc
      simp [hb]
    · simp [hc]

theorem mem_allBays (b : BayId) : b ∈ allBays := List.mem_finRange b

theorem nodup_allBays : allBays.Nodup := List.nodup_finRange 60

theorem foldl_keeps {α : Type} {g : State → α → State} {P : State → Prop} (keep : ∀ t x, P t → P (g t x))
    (xs : List α) {s : State} (h : P s) : P (xs.foldl g s) :=
  List.foldlRecOn xs g h fun t ht x _ => keep t x ht

/-! ### Postings and readings -/

theorem postIf_only (c : Bool) (o : Obj) (s : State) :
    postIf c o s = { s with ports := (postIf c o s).ports } := by
  cases c <;> rfl

theorem postBay_only (b : BayId) (was : BayReport) (s : State) :
    postBay b was s = { s with ports := (postBay b was s).ports } := postIf_only _ _ _

/-! ### SET BAY (R12) -/

theorem writeRecord_only (w : BayWrite) (b : BayId) (s : State) : writeRecord w b s = { s with
    settings := { s.settings with bays := s.settings.bays.set b (w.apply (s.bayCfg b)) }
    bays := s.bays.set b (w.applyBay (s.bay b)), ports := (writeRecord w b s).ports } :=
  postBay_only _ _ _

theorem writeRecord_bay (w : BayWrite) (b c : BayId) (s : State) :
    (writeRecord w b s).bay c = if c = b then w.applyBay (s.bay b) else s.bay c := by
  rw [writeRecord_only]
  exact setBay_bay b c _ s

theorem writeRecord_bayCfg (w : BayWrite) (b c : BayId) (s : State) :
    (writeRecord w b s).bayCfg c = if c = b then w.apply (s.bayCfg b) else s.bayCfg c := by
  rw [writeRecord_only]
  exact get_set_eq s.settings.bays b c _

theorem writeAndMove_bay (w : BayWrite) (b c : BayId) (s : State) :
    (writeAndMove w b s).bay c = if c = b then w.applyBay (s.bay b) else s.bay c := by
  rw [← writeRecord_bay]
  unfold writeAndMove
  split <;> rfl

theorem writeAndMove_bayCfg (w : BayWrite) (b c : BayId) (s : State) :
    (writeAndMove w b s).bayCfg c = if c = b then w.apply (s.bayCfg b) else s.bayCfg c := by
  rw [← writeRecord_bayCfg]
  unfold writeAndMove
  split <;> rfl

/-- SET BAY changes the settings and the record of its bay, and beyond them the queue and the change lists alone. -/
theorem writeAndMove_only (w : BayWrite) (b : BayId) (s : State) : writeAndMove w b s = { s with
    settings := { s.settings with bays := s.settings.bays.set b (w.apply (s.bayCfg b)) }
    bays := s.bays.set b (w.applyBay (s.bay b)), queue := (writeAndMove w b s).queue
    ports := (writeAndMove w b s).ports } := by
  have hrecord := writeRecord_only w b s
  unfold writeAndMove
  generalize writeRecord w b s = t at hrecord
  split
  · generalize moveEntry b (w.apply (s.bayCfg b)).level s.queue = q
    rw [hrecord]
  · rw [hrecord]

/-- The fields of a record that SET BAY writes. -/
theorem applyBay_eq (w : BayWrite) (y : Bay) : w.applyBay y = { y with
    profile := w.profile.getD y.profile, override := w.profile.isSome || y.override
    attention := y.attention && w.buttonEnabled.getD true } := by
  obtain ⟨profile, zone, level, sheddable, button⟩ := w
  cases profile <;> cases button <;> simp [BayWrite.applyBay, Bay.heldAttention]

/-! ### Zones -/

theorem recountFans_eq_postIf (z : ZoneId) (s : State) : ∃ (t : State) (c : Bool),
    t = { s with zones := t.zones, fans := t.fans } ∧ recountFans z s = postIf c (.zone z) t :=
  ⟨_, _, rfl, rfl⟩

theorem recountFans_only (z : ZoneId) (s : State) : recountFans z s = { s with
    zones := (recountFans z s).zones, fans := (recountFans z s).fans, ports := (recountFans z s).ports } := by
  obtain ⟨t, c, ht, h⟩ := recountFans_eq_postIf z s
  rw [h, postIf_only c]
  generalize (postIf c (.zone z) t).ports = ps
  rw [ht]

/-- What written zone settings change: the zone, its fans, and the change lists. -/
theorem applyZone_only (z : ZoneId) (s : State) : applyZone z s = { s with
    zones := (applyZone z s).zones, fans := (applyZone z s).fans, ports := (applyZone z s).ports } := by
  have h := recountFans_only z s
  unfold applyZone
  generalize recountFans z s = t at h
  rw [h]
  rfl

theorem takeZones_only (s : State) : takeZones s = { s with
    zones := (takeZones s).zones, fans := (takeZones s).fans, ports := (takeZones s).ports } := by
  unfold takeZones
  refine foldl_keeps (P := fun t => t = { s with zones := t.zones, fans := t.fans, ports := t.ports })
    (fun t z ht => ?_) _ rfl
  generalize hu : applyZone z t = u
  have h := applyZone_only z t
  rw [hu] at h
  rw [h, ht]

theorem superviseFans_only (z : ZoneId) (speeds : Vector (BitVec 16) 4) (s : State) :
    superviseFans z speeds s = { s with fans := (superviseFans z speeds s).fans } := by
  rfl

theorem readSensors_only (z : ZoneId) (inputs : Vector (Option Int) 8) (s : State) :
    readSensors z inputs s = { s with sensors := (readSensors z inputs s).sensors } := by
  rfl

/-- What a control period reads and judges: the zone, its fans and its sensors. -/
theorem periodRead_only (z : ZoneId) (inputs : Vector (Option Int) 8) (speeds : Vector (BitVec 16) 4) (s : State) :
    ∃ x, periodRead z inputs speeds s = { s with
      zones := s.zones.set z x, fans := (superviseFans z speeds s).fans
      sensors := (readSensors z inputs (superviseFans z speeds s)).sensors } := by
  have h1 := superviseFans_only z speeds s
  have h2 := readSensors_only z inputs (superviseFans z speeds s)
  have h : ∃ x, periodRead z inputs speeds s = setZone z x (readSensors z inputs (superviseFans z speeds s)) :=
    ⟨_, rfl⟩
  obtain ⟨x, h⟩ := h
  refine ⟨x, h.trans ?_⟩
  rw [h2]
  generalize (readSensors z inputs (superviseFans z speeds s)).sensors = r
  rw [h1]
  rfl

/-! ### A load (R165, R166) -/

/-- The attention requests held clear where button enabled is no (R18). -/
theorem takeBaySettings_only (was s : State) :
    takeBaySettings was s
      = { s with bays := (takeBaySettings was s).bays, ports := (takeBaySettings was s).ports } := by
  unfold takeBaySettings
  refine foldl_keeps (P := fun t => t = { s with bays := t.bays, ports := t.ports }) (fun t b ht => ?_) _ rfl
  have h := postBay_only b (was.report b) (setBay b ((t.bay b).heldAttention (t.bayCfg b).buttonEnabled) t)
  generalize postBay b (was.report b) (setBay b ((t.bay b).heldAttention (t.bayCfg b).buttonEnabled) t) = u at h
  rw [h, ht]
  rfl

theorem takeBaySettings_bay (was s : State) (c : BayId) :
    (takeBaySettings was s).bay c = (s.bay c).heldAttention (s.bayCfg c).buttonEnabled := by
  have h := foldl_bay (P := fun t => t.settings = s.settings)
    (h := fun b y => y.heldAttention (s.bayCfg b).buttonEnabled)
    (g := fun t b => postBay b (was.report b)
      (setBay b ((t.bay b).heldAttention (t.bayCfg b).buttonEnabled) t))
    (fun t b ht => by rw [postBay_only]; exact ht)
    (fun t b c ht => by
      have hcfg : t.bayCfg b = s.bayCfg b := congrArg (fun x : Settings => x.bays.get b) ht
      rw [postBay_only, hcfg]
      exact setBay_bay b c _ t)
    allBays s rfl nodup_allBays c
  rw [if_pos (mem_allBays c)] at h
  exact h

theorem postSupplies_only (was s : State) :
    postSupplies was s = { s with ports := (postSupplies was s).ports } := by
  unfold postSupplies
  refine foldl_keeps (P := fun t => t = { s with ports := t.ports }) (fun t i ht => ?_) _ rfl
  rw [postIf_only]
  generalize (postIf _ _ t).ports = ps
  rw [ht]

theorem setRole_only (p : Port) (s : State) :
    setRole p s = { s with controlling := p, ports := (setRole p s).ports } := postIf_only _ _ _

theorem takeLoad_only (answer : LoadAnswer) (s : State) : takeLoad answer s = { s with
    memory := (takeLoad answer s).memory, store := (takeLoad answer s).store, storeMs := 0
    settings := (takeLoad answer s).settings } := by
  unfold takeLoad
  dsimp only
  split <;> rfl

/-- The settings after a load are those of a good image, or the factory's (R165). -/
theorem takeLoad_settings (answer : LoadAnswer) (s : State) :
    (takeLoad answer s).settings = Settings.factory
    ∨ ∃ m : Image, m.good = true ∧ (takeLoad answer s).settings = m.settings := by
  unfold takeLoad
  dsimp only
  split
  · next c hc =>
    right
    split at hc
    · cases hc
    · unfold readImage at hc
      split at hc
      · cases hc
      · next m _ =>
        split at hc
        · next hgood =>
          cases hc
          exact ⟨m, hgood, rfl⟩
        · cases hc
  · exact .inl rfl

theorem takeLoad_inRange (answer : LoadAnswer) (s : State) : (takeLoad answer s).settings.InRange := by
  rcases takeLoad_settings answer s with h | ⟨m, hm, h⟩
  · rw [h]
    exact Settings.factory_inRange
  · rw [h]
    exact Image.settings_inRange hm

theorem takeSettings_eq (answer : LoadAnswer) (s : State) : takeSettings answer s
    = freshWindows (resortQueue (setRole
        (takeZones (postSupplies s (takeBaySettings s (post .enclosure (takeLoad answer s))))).settings.ports.preferred
        (dropUnmapped
          (takeZones (postSupplies s (takeBaySettings s (post .enclosure (takeLoad answer s)))))))) := rfl

/-- The zones and fans a load leaves, and what it hands on. -/
theorem takeSettings_frame (answer : LoadAnswer) (s : State) : ∃ bays zones fans ps p,
    takeSettings answer s = freshWindows (resortQueue (dropUnmapped { takeLoad answer s with
      bays := bays, zones := zones, fans := fans, ports := ps, controlling := p }))
    ∧ p = (takeLoad answer s).settings.ports.preferred
    ∧ (∀ c, bays.get c = (s.bay c).heldAttention ((takeLoad answer s).bayCfg c).buttonEnabled)
    ∧ ∃ bays' ps', zones = (takeZones { takeLoad answer s with bays := bays', ports := ps' }).zones
      ∧ fans = (takeZones { takeLoad answer s with bays := bays', ports := ps' }).fans := by
  rw [takeSettings_eq]
  have hload : ∀ c, (takeLoad answer s).bay c = s.bay c := fun c => by rw [takeLoad_only]; rfl
  generalize takeLoad answer s = l at *
  have hbays := fun c => takeBaySettings_bay s (post .enclosure l) c
  have h1 := takeBaySettings_only s (post .enclosure l)
  generalize takeBaySettings s (post .enclosure l) = t1 at *
  have h2 := postSupplies_only s t1
  generalize postSupplies s t1 = t2 at *
  obtain ⟨ps2, rfl⟩ : ∃ ps, t2 = { l with bays := t1.bays, ports := ps } := by
    rw [h2, h1]
    exact ⟨_, rfl⟩
  have h3 := takeZones_only { l with bays := t1.bays, ports := ps2 }
  generalize hu : takeZones { l with bays := t1.bays, ports := ps2 } = u at *
  obtain ⟨zs, fs, ps3, rfl⟩ : ∃ zs fs ps,
      u = { l with bays := t1.bays, zones := zs, fans := fs, ports := ps } := ⟨_, _, _, h3⟩
  dsimp only
  rw [setRole_only]
  generalize (setRole l.settings.ports.preferred (dropUnmapped _)).ports = ps
  refine ⟨t1.bays, zs, fs, ps, l.settings.ports.preferred, ?_, rfl, fun c => ?_, t1.bays, ps2,
    congrArg State.zones hu.symm, congrArg State.fans hu.symm⟩
  · unfold dropUnmapped
    rfl
  · have hc : t1.bay c = (l.bay c).heldAttention (l.bayCfg c).buttonEnabled := hbays c
    rw [← hload]
    exact hc

/-- The bay records a load leaves: attention held clear by the settings loaded, and a fresh surge window in
STARTING. -/
theorem takeSettings_bay (answer : LoadAnswer) (s : State) (c : BayId) : ∃ ms,
    (takeSettings answer s).bay c = { s.bay c with
      attention := (s.bay c).attention && ((takeSettings answer s).bayCfg c).buttonEnabled
      timer := if (s.bay c).state = .starting then .surge ms else (s.bay c).timer } := by
  obtain ⟨bays, zones, fans, ps, p, h, -, hbays, -⟩ := takeSettings_frame answer s
  rw [h]
  generalize takeLoad answer s = l at *
  refine ⟨(l.settings.profiles.get (bays.get c).profile).surgeTime * Config.tickMs, ?_⟩
  show (Vector.map _ bays).get c = _
  rw [get_vmap]
  rw [hbays]
  show (if (s.bay c).state = .starting then _ else _) = _
  split
  · rfl
  · rfl

theorem takeSettings_settings (answer : LoadAnswer) (s : State) :
    (takeSettings answer s).settings = (takeLoad answer s).settings := by
  obtain ⟨bays, zones, fans, ps, p, h, -⟩ := takeSettings_frame answer s
  rw [h]
  rfl

theorem takeSettings_queue (answer : LoadAnswer) (s : State) :
    (takeSettings answer s).queue = sortQueue (s.queue.map (takeSettings answer s).relevel) := by
  obtain ⟨bays, zones, fans, ps, p, h, -⟩ := takeSettings_frame answer s
  rw [h]
  have hq : (takeLoad answer s).queue = s.queue := by rw [takeLoad_only]
  rw [← hq]
  rfl

/-! ### The moves keep the queue (R29) -/

section Moves

variable {wide ordered : Prop} {c : Settings} {b : BayId} {y z : Bay}

/-- A change that leaves the queue alone neither enters nor leaves QUEUED, and keeps a QUEUED bay's origin. -/
theorem Turn.queued_iff (h : Turn ordered c b y z) (ho : ordered) :
    (z.state = .queued ↔ y.state = .queued) ∧ (y.state = .queued → z.origin = y.origin) := by
  cases h with
  | waits h => exact ⟨Iff.rfl, fun _ => rfl⟩
  | identified k h => simp [h ho]
  | stopped ms h | stoppedBack ms o ev h | stoppedForRemoval ms h | faulted cause h =>
    have hne : y.state ≠ .queued := fun hq => by simp [hq, BayState.powered] at h
    exact ⟨⟨nofun, fun hq => absurd hq hne⟩, fun hq => absurd hq hne⟩
  | emptied ev h => exact ⟨⟨nofun, fun hq => absurd hq h⟩, fun hq => absurd hq h⟩
  | removable w p h =>
    have hne : y.state ≠ .queued := fun hq => by simp [hq] at h
    exact ⟨⟨nofun, fun hq => absurd hq hne⟩, fun hq => absurd hq hne⟩
  | settling m ms h | requeued o h h' | unqueued h | removalAdded h | removalCancelled h | leftRemovable ev h
  | tripped ms h h' | surged h | withdrawn h | stopDone h h' h'' | faultCleared h =>
    simp [h, Bay.withdrawn]
  | pressed | attended h h' | declined | indicated p i sec h | unindicated p i | owned o =>
    exact ⟨Iff.rfl, fun _ => rfl⟩

theorem Leaves.not_queued (h : Leaves y z) : z.state ≠ .queued := by
  cases h <;> nofun

theorem Joins.not_queued (h : Joins y z) : y.state ≠ .queued := by
  cases h with
  | off h | restored ev h | returned h h' => simp [h]
  | requested h =>
    intro hq
    simp [hq] at h

/-- A QUEUED bay stands in the queue, which its entry splits. -/
theorem State.QueueOk.split {s : State} (h : s.QueueOk) (hb : (s.bay b).state = .queued) :
    ∃ before after e, s.queue = before ++ e :: after ∧ e.bay = b := by
  obtain ⟨hmem, -⟩ := h
  obtain ⟨e, he, heb⟩ := List.mem_map.mp ((hmem b).mp hb)
  obtain ⟨before, after, hq⟩ := List.append_of_mem he
  exact ⟨before, after, e, hq, heb⟩

theorem State.QueueOk.state_of_mem {s : State} (h : s.QueueOk) {e : Entry} (he : e ∈ s.queue) :
    (s.bay e.bay).state = .queued := by
  obtain ⟨hmem, -⟩ := h
  exact (hmem e.bay).mpr (List.mem_map_of_mem he)

/-- An admission keeps the queue in order: it starts a QUEUED bay, whose entry leaves. -/
theorem admitOne_queueOk {s t : State} (hs : s.QueueOk) (h : admitOne s = some t) : t.QueueOk := by
  obtain ⟨e, r, -, hc, -, -, -, ht⟩ := admitOne_cases h
  have hq := hs
  obtain ⟨-, hnodup, -⟩ := hq
  obtain ⟨before, after, hq, hr⟩ := candidate_leaves hc hnodup
  have hcfg : ∀ c, (t.bayCfg c).level = (s.bayCfg c).level := fun c => by
    rw [ht, State.bayCfg, startBay_settings]
    rfl
  have hb : (t.bay e.bay).state ≠ .queued := by
    rw [ht, startBay_bay, if_pos rfl]
    nofun
  have hne : ∀ c, c ≠ e.bay → t.bay c = s.bay c := fun c hc => by
    rw [ht, startBay_bay, if_neg hc]
  have htq : t.queue = r := by rw [ht, startBay_queue]
  clear ht h
  rcases hr with hr | hr
  · exact queueOk_of_leave hs (g := id) (fun x => ⟨rfl, rfl, rfl, id⟩) hq
      (by rw [htq, hr, List.map_id]) hcfg hb hne
  · exact queueOk_of_leave hs (fun x => ⟨passOver_bay s x, passOver_level s x, passOver_origin s x,
      passOver_bypass_le⟩) hq (by rw [htq, hr]) hcfg hb hne

/-- SET BAY keeps the queue in order: a QUEUED bay of changed level moves to its new group (R13). -/
theorem writeAndMove_queueOk {s : State} (w : BayWrite) (b : BayId) (h : s.QueueOk) :
    (writeAndMove w b s).QueueOk := by
  have hbay := fun c => writeAndMove_bay w b c s
  have hcfg := fun c => writeAndMove_bayCfg w b c s
  have hsame : ∀ c, ((writeAndMove w b s).bay c).state = (s.bay c).state
      ∧ ((writeAndMove w b s).bay c).origin = (s.bay c).origin := by
    intro c
    rw [hbay, applyBay_eq]
    split
    · next hc => rw [hc]; exact ⟨rfl, rfl⟩
    · exact ⟨rfl, rfl⟩
  by_cases hmove : ((s.bay b).state = .queued && (w.apply (s.bayCfg b)).level != (s.bayCfg b).level) = true
  · have hqueue : (writeAndMove w b s).queue = moveEntry b (w.apply (s.bayCfg b)).level s.queue := by
      unfold writeAndMove
      rw [if_pos hmove]
    simp only [Bool.and_eq_true, decide_eq_true_eq, bne_iff_ne] at hmove
    obtain ⟨hmem, hnodup, hentry, hsorted⟩ := h
    obtain ⟨before, after, e, hq, heb⟩ := State.QueueOk.split ⟨hmem, hnodup, hentry, hsorted⟩ hmove.1
    have hnot : ∀ x ∈ before, x.bay ≠ b := by
      rw [hq] at hnodup
      simp only [List.map_append, List.map_cons, List.nodup_middle, List.nodup_cons, List.mem_append,
        List.mem_map, not_or, not_exists, not_and, heb] at hnodup
      exact hnodup.1.1
    have hfind : s.queue.find? (fun x => x.bay = b) = some e := by
      rw [hq, List.find?_append, List.find?_eq_none.mpr (by simpa using hnot)]
      simp [heb]
    have hremove : removeEntry b s.queue = before ++ after := by
      rw [hq] at hnodup ⊢
      rw [← heb]
      exact removeEntry_middle hnodup
    have hnew : (writeAndMove w b s).queue
        = insertEnd { e with level := (w.apply (s.bayCfg b)).level, bypass := 0 } (before ++ after) := by
      rw [hqueue, moveEntry, hfind, ← hremove]
    have hperm := insertEnd_perm { e with level := (w.apply (s.bayCfg b)).level, bypass := 0 } (before ++ after)
    rw [← hnew] at hperm
    have hbays : ((writeAndMove w b s).queue.map (·.bay)).Perm (s.queue.map (·.bay)) := by
      refine (hperm.map _).trans ?_
      rw [hq]
      exact (List.perm_middle (l₁ := before) (a := e)).symm.map (·.bay)
    refine ⟨fun c => by rw [(hsame c).1, hmem, hbays.mem_iff], hbays.nodup_iff.mpr hnodup, fun x hx => ?_, ?_⟩
    · rcases List.mem_cons.mp (hperm.mem_iff.mp hx) with rfl | hx
      · obtain ⟨-, h2, -⟩ := hentry e (by rw [hq]; simp)
        refine ⟨?_, (hsame e.bay).2.trans h2, Nat.zero_le _⟩
        dsimp only
        rw [hcfg, if_pos heb]
      · have hxq : x ∈ s.queue := by
          rw [hq]
          simp only [List.mem_append, List.mem_cons] at hx ⊢
          tauto
        have hxb : x.bay ≠ b := by
          intro hxb
          rw [← hremove] at hx
          simp [removeEntry, hxb] at hx
        obtain ⟨h1, h2, h3⟩ := hentry x hxq
        exact ⟨by rw [hcfg, if_neg hxb, h1], (hsame _).2.trans h2, h3⟩
    · rw [hnew, ← hremove]
      exact insertEnd_sorted (removeEntry_sorted hsorted)
  · have hqueue : (writeAndMove w b s).queue = s.queue := by
      unfold writeAndMove
      rw [if_neg hmove, writeRecord_only]
    simp only [Bool.and_eq_true, decide_eq_true_eq, bne_iff_ne, ne_eq, not_and, not_not] at hmove
    have hqok := h
    obtain ⟨hmem, hnodup, hentry, hsorted⟩ := h
    refine ⟨fun c => by rw [(hsame c).1, hmem, hqueue], by rwa [hqueue], fun x hx => ?_, by rwa [hqueue]⟩
    rw [hqueue] at hx
    obtain ⟨h1, h2, h3⟩ := hentry x hx
    refine ⟨?_, (hsame _).2.trans h2, h3⟩
    rw [h1, hcfg]
    split
    · next hxb =>
      rw [hxb]
      exact (hmove (hxb ▸ hqok.state_of_mem hx)).symm
    · rfl

/-- Every move keeps a queue that is in order. -/
theorem Move.queueOk {s t : State} (ho : ordered) (h : Move wide ordered s t) (hs : s.QueueOk) : t.QueueOk := by
  have hsame : ∀ {u : State}, u.queue = s.queue → u.settings = s.settings → u.bays = s.bays → u.QueueOk :=
    fun hq hc hb => queueOk_of_same hs hq (fun c => by rw [State.bayCfg, hc]; rfl)
      (fun c => by rw [State.bay, hb]; rfl) (fun c _ => by rw [State.bay, hb]; rfl)
  cases h with
  | turn b f h =>
    obtain ⟨hstate, horigin⟩ := h.queued_iff ho
    refine queueOk_of_same hs (changeBay_queue b f s) (fun c => by rw [changeBay_bayCfg]) (fun c => ?_)
      (fun c hc => ?_)
    · rw [changeBay_bay]
      split
      · next hcb => rw [hcb, hstate]
      · rfl
    · rw [changeBay_bay]
      split
      · next hcb => rw [hcb] at hc ⊢; exact horigin hc
      · rfl
  | leave b f hb h =>
    obtain ⟨before, after, e, hq, rfl⟩ := hs.split hb
    have hnodup := hs
    obtain ⟨-, hnodup, -⟩ := hnodup
    refine queueOk_of_leave hs (g := id) (fun x => ⟨rfl, rfl, rfl, id⟩) hq ?_ (fun c => by
      rw [changeBay_bayCfg]; rfl) ?_ (fun c hc => by rw [changeBay_bay, if_neg hc]; rfl)
    · rw [changeBay_queue, dequeue_queue, List.map_id, hq]
      rw [hq] at hnodup
      exact removeEntry_middle hnodup
    · rw [changeBay_bay_same]
      exact h.not_queued
  | join b o f h =>
    refine queueOk_of_join hs (e := { bay := b, level := (s.bayCfg b).level, origin := o, bypass := 0 })
      ⟨rfl, Nat.zero_le _⟩ h.not_queued (changeBay_queue _ _ _) (fun c => by rw [changeBay_bayCfg]; rfl)
      (by rw [changeBay_bay_same]; exact ⟨rfl, rfl⟩) (fun c hc => by rw [changeBay_bay, if_neg hc]; rfl)
  | admission t h => exact admitOne_queueOk hs h
  | trim b y h =>
    have hy : y.state = (s.bay b).state ∧ y.origin = (s.bay b).origin := by cases h <;> exact ⟨rfl, rfl⟩
    refine queueOk_of_same hs rfl (fun _ => rfl) (fun c => ?_) (fun c _ => ?_)
    · rw [setBay_bay]
      split
      · next hcb => rw [hcb, hy.1]
      · rfl
    · rw [setBay_bay]
      split
      · next hcb => rw [hcb, hy.2]
      · rfl
  | post o => exact hsame rfl rfl rfl
  | port p f _ => exact hsame rfl rfl rfl
  | other t h => rw [h]; exact hsame rfl rfl rfl
  | settings c h =>
    exact queueOk_of_same hs rfl (fun b => by rw [State.bayCfg, h.bays]; rfl) (fun _ => Iff.rfl) (fun _ _ => rfl)
  | bay w b _ => exact writeAndMove_queueOk w b hs
  | zone z a =>
    rw [applyZone_only]
    exact queueOk_of_same hs rfl (fun _ => rfl) (fun _ => Iff.rfl) (fun _ _ => rfl)
  | sensorMap c h =>
    exact queueOk_of_same hs rfl
      (fun b => by show (c.bays.get b).level = _; rw [h.bays]; rfl) (fun _ => Iff.rfl) (fun _ _ => rfl)
  | period z inputs speeds =>
    obtain ⟨x, h⟩ := periodRead_only z inputs speeds s
    rw [h]
    exact queueOk_of_same hs rfl (fun _ => rfl) (fun _ => Iff.rfl) (fun _ _ => rfl)
  | load answer =>
    refine queueOk_of_resort hs (takeSettings_queue answer s) (fun c => ?_)
    obtain ⟨ms, h⟩ := takeSettings_bay answer s c
    rw [h]
    exact ⟨rfl, rfl⟩
  | plan pl _ => exact hsame rfl rfl rfl
  | restarted _ =>
    have hbay : ∀ c, ({ s with bays := s.bays.map Bay.restarted } : State).bay c = (s.bay c).restarted :=
      fun c => get_vmap _ _ _
    exact queueOk_of_same hs rfl (fun _ => rfl) (fun c => by rw [hbay]; rfl) (fun c _ => by rw [hbay]; rfl)

end Moves

end Sys2Proof.Machine

/-!
PROOF. Every command but the reset pin's two is a chain of moves, and what a step is: a millisecond, the reset pin,
or a chain.
-/

namespace Sys2Proof.Machine

/-! ### The settles that come due together (R6) -/

section Settles

variable {wide ordered : Prop}

/-- The queue is in order, and the bay is SETTLING. -/
def State.Settles (s : State) (b : BayId) : Prop := s.QueueOk ∧ (s.bay b).state = .settling

/-- An admission starts a QUEUED bay, and so none that is SETTLING. -/
theorem admitOne_settles {s t : State} {b : BayId} (hs : s.Settles b) (h : admitOne s = some t) : t.Settles b := by
  refine ⟨admitOne_queueOk hs.1 h, ?_⟩
  obtain ⟨e, r, -, -, hmem, -, -, ht⟩ := admitOne_cases h
  have hq := hs.1.state_of_mem hmem
  have hb : b ≠ e.bay := by
    rintro rfl
    exact absurd (hs.2.symm.trans hq) (by decide)
  rw [ht, startBay_bay, if_neg hb]
  exact hs.2

theorem takeSettle_queueOk {s : State} (b : BayId) (k : ProfileId) (hs : s.QueueOk)
    (hb : (s.bay b).state = .settling) : (takeSettle b k s).QueueOk :=
  (chain_takeSettle (wide := False) (ordered := True) k fun _ => hb).keeps
    (fun _ _ => Move.queueOk trivial) hs

/-- The settle of another bay leaves a bay SETTLING. -/
theorem takeSettle_settles {s : State} {b c : BayId} (hne : b ≠ c) (k : ProfileId) (hs : s.Settles b)
    (hc : (s.bay c).state = .settling) : (takeSettle c k s).Settles b := by
  refine ⟨takeSettle_queueOk c k hs.1 hc, ?_⟩
  have hoff : ∀ f, ((changeBay c f s).bay b).state = .settling := fun f => by
    rw [changeBay_bay, if_neg hne]
    exact hs.2
  have hjoin : ∀ o (t : State), t.QueueOk → (t.bay b).state = .settling → (t.bay c).state = .off →
      ((joinQueue c o id t).bay b).state = .settling := by
    intro o t ht hb hc
    refine (opportunity_keeps (P := fun u => u.Settles b) (fun u v => admitOne_settles) ⟨?_, ?_⟩).2
    · exact (Move.join (wide := False) (ordered := True) c o id (.off hc)).queueOk trivial ht
    · rw [changeBay_bay, if_neg hne]
      exact hb
  unfold takeSettle
  split
  · exact hoff _
  · unfold settleActions
    dsimp only
    have hturn := (chain_turn (wide := False) (ordered := True) (s := s) (b := c) (f := fun y => { y with
        state := .off, code := some k, profile := k, startMark := false, attempts := 0
        lastEvent := .inserted, timer := .idle }) (.identified k fun _ => hc)).keeps
      (fun _ _ => Move.queueOk trivial) hs.1
    have hnow : ((changeBay c (fun y => { y with
        state := .off, code := some k, profile := k, startMark := false, attempts := 0
        lastEvent := .inserted, timer := .idle }) s).bay c).state = .off := by
      rw [changeBay_bay_same]
    split <;> split
    · exact hjoin _ _ hturn (hoff _) hnow
    · exact hoff _
    · exact hjoin _ _ hturn (hoff _) hnow
    · exact hoff _

theorem takeSettles_settles {which : BayId → BayTimer → Bool} (k : Vector ProfileId 60) {b : BayId}
    (hb : ∀ t, which b t = false) {s : State} (hs : s.Settles b) : (takeSettles which k s).Settles b := by
  refine foldl_keeps (P := fun t => t.Settles b) (fun t c ht => ?_) _ hs
  split
  · next h =>
    simp only [Bool.and_eq_true, decide_eq_true_eq] at h
    refine takeSettle_settles ?_ _ ht h.1
    rintro rfl
    simp [hb] at h
  · exact ht

/-- A settle's end finds its bay SETTLING still, after the settles due before it. -/
theorem chain_settleEnd (b : BayId) (k : Vector ProfileId 60) {s : State} (h : ordered → s.QueueOk) :
    Chain wide ordered s (settleEnd b k s) := by
  rcases settleEnd_cases b k s with he | ⟨hb, -, he⟩
  · rw [he]
  · rw [he]
    refine (chain_takeSettles _ _ _).trans (chain_takeSettle _ fun ho => ?_)
    exact (takeSettles_settles k (fun t => by simp [dueBefore]) ⟨h ho, hb⟩).2

end Settles

/-! ### The commands -/

/-- The reset pin's two commands. -/
def drivesReset : Instr → Bool
  | .resetAssert | .resetRelease .. => true
  | _ => false

/-- The commands that write the plan beside the review of its pending set: the plan's own, TAKEOVER and RESTART. -/
def writesPlan : Instr → Bool
  | .writeStep .. | .startPlan .. | .pausePlan .. | .resumePlan .. | .abortPlan .. | .takeover .. | .restart ..
  | .planStep | .waitTimeExpiry => true
  | _ => false

section Commands

variable {wide ordered : Prop}

theorem fair_handover (p : Port) (u : Unit) (s : State) : Fair wide ordered s (handoverAct p u s) :=
  fair_report (chain_setRole _ _) (by simp)

theorem fair_status (p : Port) (u : Unit) (s : State) : Fair wide ordered s (statusAct p u s) := by
  refine fair_report (Move.port p _ fun x h => ?_).chain (by simp [State.statusReport])
  exact h

theorem fair_lightTest (u : Unit) (s : State) : Fair wide ordered s (lightTestAct u s) :=
  fair_report ((chain_lightTestTimer _ s).trans (chain_postIf _ _ _)) (Nat.zero_le _)

theorem fair_startPlan (hw : wide) (p : Port) (i : SlotId) (c : List SlotId) (s : State) :
    Fair wide ordered s (report [] (startPlan p i c s)) :=
  fair_report ((chain_plan hw _ s).trans (chain_post _ _)) (Nat.zero_le _)

/-- Every command but the reset pin's two answers a state that a chain of moves gives; the plan is written beside
its review only by the commands that write it, and settles find their bays SETTLING where the queue is in order. -/
theorem exec_chain (i : Instr) {s : State} (hi : drivesReset i = false) (hs : ordered → s.QueueOk) :
    ∃ t, exec i s = .next t ∧ Chain (writesPlan i = true) ordered s t := by
  cases i with
  | resetAssert => cases hi
  | resetRelease presence powerGood => cases hi
  | identify p tag payload => exact ⟨_, rfl, chain_query (fun _ _ => by decide) s⟩
  | status p tag payload => exact ⟨_, rfl, chain_request (fun u _ => fair_status p u) s⟩
  | readChanges p tag payload => exact ⟨_, rfl, chain_request (fun u _ => fair_readChanges p u) s⟩
  | bayQuery p tag payload => exact ⟨_, rfl, chain_request (fun a _ => fair_bayQuery a) s⟩
  | queueQuery p tag payload =>
    exact ⟨_, rfl, chain_request (fun a _ => fair_startQuery length_queueReport_le a) s⟩
  | ledgerQuery p tag payload => exact ⟨_, rfl, chain_query (fun _ => length_ledgerReport_le) s⟩
  | zoneQuery p tag payload => exact ⟨_, rfl, chain_request (fun a _ => fair_zoneQuery a) s⟩
  | lightQuery p tag payload => exact ⟨_, rfl, chain_request (fun a _ => fair_lightQuery a) s⟩
  | removalQuery p tag payload =>
    exact ⟨_, rfl, chain_request (fun a _ => fair_startQuery length_removalReport_le a) s⟩
  | readProfile p tag payload => exact ⟨_, rfl, chain_request (fun a _ => fair_readProfile a) s⟩
  | readStep p tag payload => exact ⟨_, rfl, chain_request (fun a _ => fair_readStep a) s⟩
  | powerOn p tag payload =>
    exact ⟨_, rfl, chain_bayListRequest (chain_owned p (chain_powerOnBay .request)) s⟩
  | powerOff p tag payload => exact ⟨_, rfl, chain_bayListRequest (chain_owned p chain_powerOffBay) s⟩
  | prepareRemoval p tag payload => exact ⟨_, rfl, chain_bayListRequest (chain_owned p chain_prepareBay) s⟩
  | cancelRemoval p tag payload => exact ⟨_, rfl, chain_bayListRequest (chain_owned p chain_cancelBay) s⟩
  | clearFault p tag payload => exact ⟨_, rfl, chain_bayListRequest (chain_owned p chain_clearFaultBay) s⟩
  | declineAttention p tag payload => exact ⟨_, rfl, chain_bayListRequest (chain_owned p chain_declineBay) s⟩
  | setBay p tag payload =>
    exact ⟨_, rfl, chain_request (fun a ha => fair_setBay p a (readSetBay_length ha)) s⟩
  | claim p tag payload => exact ⟨_, rfl, chain_bayListRequest (chain_claimBay p) s⟩
  | release p tag payload => exact ⟨_, rfl, chain_bayListRequest (chain_releaseBay p) s⟩
  | handover p tag payload => exact ⟨_, rfl, chain_request (fun u _ => fair_handover p u) s⟩
  | takeover p tag payload => exact ⟨_, rfl, chain_request (fun u _ => fair_takeover rfl p u) s⟩
  | sendNote p tag payload =>
    exact ⟨_, rfl, chain_request (fun a ha => fair_sendNote p a (readNoteBytes_length ha)) s⟩
  | readNote p tag payload => exact ⟨_, rfl, chain_requestReply (fun u _ => chain_readNote p _ tag u) s⟩
  | setPortSettings p tag payload => exact ⟨_, rfl, chain_request (fun a _ => fair_setPortSettings a) s⟩
  | setIndication p tag payload =>
    exact ⟨_, rfl, chain_request (fun a ha => fair_setIndication p a (readSetIndication_length ha)) s⟩
  | clearIndication p tag payload =>
    exact ⟨_, rfl, chain_request (fun a ha => fair_clearIndication p a (readClearIndication_length ha)) s⟩
  | enclosureLocate p tag payload => exact ⟨_, rfl, chain_request (fun a _ => fair_enclosureLocate p a) s⟩
  | lightTest p tag payload => exact ⟨_, rfl, chain_request (fun u _ => fair_lightTest u) s⟩
  | reportDriveTemperatures p tag payload => exact ⟨_, rfl, chain_request (fun a _ => fair_reportTemps a) s⟩
  | setZone p tag payload => exact ⟨_, rfl, chain_request (fun a _ => fair_setZone a) s⟩
  | setCurve p tag payload => exact ⟨_, rfl, chain_request (fun a _ => fair_setCurve a) s⟩
  | setSensorMap p tag payload => exact ⟨_, rfl, chain_request (fun a _ => fair_setSensorMap a) s⟩
  | setProfile p tag payload => exact ⟨_, rfl, chain_request (fun a _ => fair_setProfile a) s⟩
  | setScheduler p tag payload => exact ⟨_, rfl, chain_request (fun a _ => fair_setScheduler a) s⟩
  | setSupply p tag payload => exact ⟨_, rfl, chain_request (fun a _ => fair_setSupply a) s⟩
  | setBudget p tag payload => exact ⟨_, rfl, chain_request (fun a _ => fair_setBudget a) s⟩
  | setRemoval p tag payload => exact ⟨_, rfl, chain_request (fun a _ => fair_setRemoval a) s⟩
  | writeStep p tag payload => exact ⟨_, rfl, chain_request (fun a _ => fair_writeStep rfl a) s⟩
  | startPlan p tag payload =>
    exact ⟨_, rfl, chain_request (fun a _ => fair_withChain (fair_startPlan rfl p) a) s⟩
  | pausePlan p tag payload => exact ⟨_, rfl, chain_request (fun u _ => fair_pause rfl u) s⟩
  | resumePlan p tag payload => exact ⟨_, rfl, chain_request (fun u _ => fair_resume rfl u) s⟩
  | abortPlan p tag payload => exact ⟨_, rfl, chain_request (fun u _ => fair_abort rfl u) s⟩
  | checkPlan p tag payload =>
    exact ⟨_, rfl, chain_request
      (fun a _ => fair_withChain (fun _ c t => fair_report .refl (length_checkPlanReport_le p c t)) a) s⟩
  | saveSettings p tag payload => exact ⟨_, rfl, chain_request (fun u _ => fair_save u) s⟩
  | restart p tag payload => exact ⟨_, rfl, chain_request (fun u _ => fair_restart rfl u) s⟩
  | unknownRequestType p kind tag payload =>
    refine ⟨_, rfl, ?_⟩
    split
    · exact .refl
    · exact chain_badType p kind tag s
  | checkError p => exact ⟨_, rfl, chain_lineEvent p (chain_endFrame p _ s)⟩
  | lengthOutOfRange p => exact ⟨_, rfl, chain_lineEvent p (chain_endFrame p _ s)⟩
  | overrunFrame p =>
    refine ⟨_, rfl, chain_lineEvent p ?_⟩
    split
    · exact (chain_hear p s).trans (chain_markOverrun p _)
    · exact .refl
  | gap p => exact ⟨_, rfl, chain_lineEvent p (chain_endFrame p _ s)⟩
  | breakBegin p => exact ⟨_, rfl, chain_event (chain_breakBegin p s)⟩
  | replyEnd p => exact ⟨_, rfl, chain_event (chain_replyEnd p s)⟩
  | breakEnd p => exact ⟨_, rfl, chain_event (chain_breakEnd p s)⟩
  | presenceArrives b =>
    refine ⟨_, rfl, chain_event ?_⟩
    split
    · next h => exact chain_settleStart h
    · exact .refl
  | presenceLost b => exact ⟨_, rfl, chain_event (chain_presenceGone b s)⟩
  | pull b => exact ⟨_, rfl, chain_event (chain_presenceGone b s)⟩
  | settleEnd b contacts => exact ⟨_, rfl, chain_event (chain_settleEnd b contacts hs)⟩
  | buttonPress b => exact ⟨_, rfl, chain_event (chain_press b s)⟩
  | buttonRelease b => exact ⟨_, rfl, chain_event (Move.trim b _ (.armed true)).chain⟩
  | activityPulse b => exact ⟨_, rfl, chain_event (Move.trim b _ (.dark _)).chain⟩
  | activityDarkTimerExpiry b => exact ⟨_, rfl, chain_event (Move.trim b _ (.dark _)).chain⟩
  | startTrip b => exact ⟨_, rfl, chain_event (chain_tripBay b s)⟩
  | runTrip b => exact ⟨_, rfl, chain_event (chain_tripBay b s)⟩
  | surgeWindowEnd b => exact ⟨_, rfl, chain_event (chain_surgeEnd b s)⟩
  | backoffEnd b => exact ⟨_, rfl, chain_event (chain_backoffEnd b s)⟩
  | stopWindowEnd b => exact ⟨_, rfl, chain_event (chain_stopEnd b s)⟩
  | staggerGapExpiry => exact ⟨_, rfl, chain_event (chain_gapEnd s)⟩
  | powerGoodFall k => exact ⟨_, rfl, chain_event (chain_setGood k false s)⟩
  | powerGoodRise k => exact ⟨_, rfl, chain_event (chain_lineRises k s)⟩
  | qualifyTimerExpiry k => exact ⟨_, rfl, chain_event (chain_qualifyEnd k s)⟩
  | shedTimerExpiry => exact ⟨_, rfl, chain_event (chain_shedEnd s)⟩
  | removalWindowExpiry b => exact ⟨_, rfl, chain_event (chain_removalEnd b s)⟩
  | locateTimerExpiry p b => exact ⟨_, rfl, chain_event (chain_locateEnd p b s)⟩
  | enclosureLocateExpiry p => exact ⟨_, rfl, chain_event (chain_enclosureLocateEnd p s)⟩
  | lightTestExpiry => exact ⟨_, rfl, chain_event (chain_lightTestEnd s)⟩
  | controlPeriod z sensors speeds => exact ⟨_, rfl, chain_event (chain_controlPeriod z sensors speeds s)⟩
  | loadComplete answer contacts => exact ⟨_, rfl, chain_event (chain_loadComplete answer contacts s)⟩
  | saveComplete outcome => exact ⟨_, rfl, chain_event (chain_saveEnd outcome s)⟩
  | saveTimeout left => exact ⟨_, rfl, chain_event (chain_saveEnd _ s)⟩
  | planStep => exact ⟨_, rfl, chain_event (chain_planStep rfl s)⟩
  | waitTimeExpiry => exact ⟨_, rfl, chain_event (chain_waitEnd rfl s)⟩

/-- What a step does: a millisecond passes, the reset pin acts, or a chain of moves runs. -/
theorem step_cases {s t : State} (h : step s = .next t) (hs : ordered → s.QueueOk) :
    (s.pending = [] ∧ t = elapse s)
    ∨ ∃ c rest, s.pending = c :: rest ∧ exec c { s with pending := rest } = .next t
      ∧ ((c = .resetAssert ∧ t = { s with
            pending := rest, resetHeld := true, bays := s.bays.map fun y => { y with switch := false } })
        ∨ (∃ presence powerGood, c = .resetRelease presence powerGood
            ∧ t = resetRelease presence powerGood { s with pending := rest })
        ∨ Chain (writesPlan c = true) ordered { s with pending := rest } t) := by
  cases hp : s.pending with
  | nil =>
    rw [step_of_idle hp] at h
    cases h
    exact .inl ⟨rfl, rfl⟩
  | cons c rest =>
    rw [step_of_pending hp] at h
    refine .inr ⟨c, rest, rfl, h, ?_⟩
    cases hc : drivesReset c with
    | false =>
      obtain ⟨u, hu, hchain⟩ := exec_chain c (s := { s with pending := rest }) hc
        fun ho => queueOk_of_same (hs ho) rfl (fun _ => rfl) (fun _ => Iff.rfl) (fun _ _ => rfl)
      rw [h] at hu
      cases hu
      exact .inr (.inr hchain)
    | true =>
      cases c with
      | resetAssert => exact .inl ⟨rfl, (Host.Outcome.next.inj h).symm⟩
      | resetRelease presence powerGood =>
        exact .inr (.inl ⟨presence, powerGood, rfl, (Host.Outcome.next.inj h).symm⟩)
      | _ => cases hc

end Commands

end Sys2Proof.Machine

/-!
PROOF. The reset: what the release of the pin leaves is a chain of moves from the reset values. What every move, a
millisecond and the pin keep, a step keeps; the queue (R29) and, first of the state after reset, every invariant.
-/

namespace Sys2Proof.Machine

/-! ### The release of the reset pin (10.3) -/

/-- The state at the release of the pin, before the bays present enter SETTLING. -/
def State.released (s : State) (powerGood : BitVec 4) : State :=
  let base := { State.reset with
    pending := s.pending
    memory := if s.store.isSaving then none else s.memory
    supplies := suppliesAtRelease powerGood }
  { base with collapse := base.goodSupplies.isEmpty }

theorem chain_arrivals {wide ordered : Prop} (presence : BitVec 60) :
    ∀ (bs : List BayId) (s : State), bs.Nodup → (∀ b ∈ bs, (s.bay b).state = .empty) →
      Chain wide ordered s (bs.foldl (fun u b => if presence.getLsbD b.val then settleStart b u else u) s)
  | [], _, _, _ => .refl
  | b :: bs, s, hnodup, hempty => by
    obtain ⟨hb, hbs⟩ := List.nodup_cons.mp hnodup
    obtain ⟨hnow, hrest⟩ := List.forall_mem_cons.mp hempty
    rw [List.foldl_cons]
    split
    · refine (chain_settleStart hnow).trans (chain_arrivals presence bs _ hbs fun c hc => ?_)
      rw [settleStart, changeBay_bay, if_neg fun h : c = b => hb (h ▸ hc)]
      exact hrest c hc
    · exact chain_arrivals presence bs s hbs hrest

theorem reset_bay (b : BayId) : State.reset.bay b = Bay.reset := get_replicate _ _

theorem chain_resetRelease {wide ordered : Prop} (presence : BitVec 60) (powerGood : BitVec 4) (s : State) :
    Chain wide ordered (s.released powerGood) (resetRelease presence powerGood s) :=
  (chain_arrivals presence allBays _ nodup_allBays fun b _ => by
    show (State.reset.bay b).state = _
    rw [reset_bay]
    rfl).trans (chain_recompute _)

/-- The release of the pin leaves no part of the state it finds in any block of the drawer. -/
theorem released_only (s : State) (powerGood : BitVec 4) : s.released powerGood = { State.reset with
    pending := s.pending, memory := (s.released powerGood).memory
    supplies := suppliesAtRelease powerGood, collapse := (s.released powerGood).collapse } := by
  unfold State.released
  rfl

/-! ### What a step keeps -/

/-- The state while the pin is held: every switch enable is open (10.3). -/
def State.held (s : State) : State :=
  { s with resetHeld := true, bays := s.bays.map fun y => { y with switch := false } }

/-- What a millisecond, the reset pin and the chain of a command keep, a step keeps. -/
theorem step_keeps {ordered : Prop} {P : State → Prop} (elapsed : ∀ s, P s → P (elapse s))
    (waiting : ∀ s rest, P s → P { s with pending := rest }) (held : ∀ s, P s → P s.held)
    (released : ∀ s powerGood, P (State.released s powerGood))
    (move : ∀ {wide : Prop} s t, Move wide ordered s t → P s → P t)
    {s t : State} (h : step s = .next t) (hq : ordered → s.QueueOk) (hs : P s) : P t := by
  rcases step_cases h hq with ⟨-, ht⟩ | ⟨c, rest, -, -, ⟨-, ht⟩ | ⟨presence, powerGood, -, ht⟩ | hchain⟩
  · rw [ht]
    exact elapsed s hs
  · rw [ht]
    exact held _ (waiting s rest hs)
  · rw [ht]
    exact (chain_resetRelease (wide := False) presence powerGood _).keeps move (released _ powerGood)
  · exact hchain.keeps move (waiting s rest hs)

/-! ### The queue (R29) -/

theorem reset_queueOk : State.reset.QueueOk :=
  ⟨fun b => by rw [reset_bay]; exact ⟨nofun, nofun⟩, .nil, nofun, .nil⟩

theorem Bay.elapse_state (y : Bay) : y.elapse.state = y.state ∧ y.elapse.origin = y.origin := ⟨rfl, rfl⟩

theorem elapse_bay (s : State) (b : BayId) :
    (elapse s).bay b = if s.resetHeld then s.bay b else (s.bay b).elapse := by
  unfold elapse
  split
  · rfl
  · exact get_vmap _ _ _

theorem held_bay (s : State) (b : BayId) : s.held.bay b = { s.bay b with switch := false } :=
  get_vmap _ _ _

theorem elapse_settings (s : State) : (elapse s).settings = s.settings := by
  unfold elapse
  split <;> rfl

theorem elapse_queue (s : State) : (elapse s).queue = s.queue := by
  unfold elapse
  split <;> rfl

theorem elapse_queueOk {s : State} (hs : s.QueueOk) : (elapse s).QueueOk := by
  have hbay : ∀ b, ((elapse s).bay b).state = (s.bay b).state ∧ ((elapse s).bay b).origin = (s.bay b).origin := by
    intro b
    rw [elapse_bay]
    split
    · exact ⟨rfl, rfl⟩
    · exact Bay.elapse_state _
  exact queueOk_of_same hs (elapse_queue s) (fun c => by rw [State.bayCfg, elapse_settings]; rfl)
    (fun c => by rw [(hbay c).1]) (fun c _ => (hbay c).2)

theorem held_queueOk {s : State} (hs : s.QueueOk) : s.held.QueueOk :=
  queueOk_of_same hs rfl (fun _ => rfl) (fun c => by rw [held_bay]) (fun c _ => by rw [held_bay])

/-- Settles O53: a millisecond and the reset pin leave states, origins and queue alone, and every move of a command
keeps the queue in order. -/
theorem queueIsTheQueuedBays : Obligations.QueueIsTheQueuedBays := by
  intro s t hs h
  refine step_keeps (ordered := True) (P := State.QueueOk) (fun s => elapse_queueOk)
    (fun s rest hs => queueOk_of_same hs rfl (fun _ => rfl) (fun _ => Iff.rfl) (fun _ _ => rfl))
    (fun s => held_queueOk) (fun s pg => ?_) (fun s t => Move.queueOk trivial) h (fun _ => hs) hs
  rw [released_only]
  exact queueOk_of_same reset_queueOk rfl (fun _ => rfl) (fun _ => Iff.rfl) (fun _ _ => rfl)

end Sys2Proof.Machine

/-!
PROOF. The ports (R148, R151–R155, R159, R160, R171) and the settings (R8, R24, R50, R53, R70, R118, R140): what every
move keeps of them, and so every step.
-/

namespace Sys2Proof.Machine

/-! ### What postings keep, the operations that only post keep -/

/-- Both ports have a property. -/
def State.Both (K : PortState → Prop) (s : State) : Prop := K s.ports.a ∧ K s.ports.b

theorem both_of_ports {K : PortState → Prop} {s t : State} (hp : t.ports = s.ports) (h : s.Both K) : t.Both K := by
  rw [State.Both, hp]
  exact h

section Posting

variable {K : PortState → Prop} (hK : ∀ o x, K x → K (PortState.post o x))
include hK

theorem both_post (o : Obj) {s : State} (h : s.Both K) : (post o s).Both K := by
  obtain ⟨ha, hb⟩ := h
  exact ⟨hK o _ ha, hK o _ hb⟩

theorem both_postIf (c : Bool) (o : Obj) {s : State} (h : s.Both K) : (postIf c o s).Both K := by
  cases c
  · exact h
  · exact both_post hK o h

theorem both_endStep (r : StepResult) (n : Nat) {s : State} (h : s.Both K) : (endStep r n s).Both K := by
  unfold endStep
  split
  · exact h
  · dsimp only
    split
    · exact both_post hK _ h
    · exact both_postIf hK _ _ h

theorem both_planReview (b : BayId) {s : State} (h : s.Both K) : (planReview b s).Both K := by
  unfold planReview
  split
  · have hd : (depart b s).Both K := by
      unfold depart
      split <;> exact h
    dsimp only
    split
    · exact both_endStep hK _ _ hd
    · split
      · exact both_post hK _ hd
      · exact hd
  · exact h

theorem both_changeBay (b : BayId) (f : Bay → Bay) {s : State} (h : s.Both K) : (changeBay b f s).Both K :=
  both_planReview hK b (both_postIf hK _ _ h)

theorem both_recompute {s : State} (h : s.Both K) : (recompute s).Both K :=
  both_postIf hK _ _ h

theorem both_startBay (b : BayId) (q : List Entry) {s : State} (h : s.Both K) : (startBay b q s).Both K := by
  have ht : (changeBay b (Bay.started (s.profile b).surgeTime) { s with queue := q }).Both K :=
    both_changeBay hK b _ h
  unfold startBay
  dsimp only
  generalize changeBay b (Bay.started (s.profile b).surgeTime) { s with queue := q } = t at ht
  exact both_recompute hK (both_of_ports (s := t) rfl ht)

theorem both_writeAndMove (w : BayWrite) (b : BayId) {s : State} (h : s.Both K) : (writeAndMove w b s).Both K := by
  have hr : (writeRecord w b s).Both K := by
    unfold writeRecord postBay
    refine both_postIf hK _ _ (both_of_ports (s := s) ?_ h)
    dsimp only [setBay]
  unfold writeAndMove
  split
  · exact both_of_ports (s := writeRecord w b s) rfl hr
  · exact hr

theorem both_applyZone (z : ZoneId) {s : State} (h : s.Both K) : (applyZone z s).Both K := by
  have hr : (recountFans z s).Both K := by
    obtain ⟨t, c, ht, h'⟩ := recountFans_eq_postIf z s
    rw [h']
    refine both_postIf hK _ _ (both_of_ports (s := s) ?_ h)
    rw [ht]
  unfold applyZone
  generalize recountFans z s = t at hr
  exact both_of_ports (s := t) rfl hr

theorem both_takeSettings (answer : LoadAnswer) {s : State} (h : s.Both K) : (takeSettings answer s).Both K := by
  have hload : (takeLoad answer s).Both K := by
    rw [takeLoad_only]
    exact h
  have hbays : ∀ t : State, t.Both K → (takeBaySettings s t).Both K := by
    intro t ht
    unfold takeBaySettings
    refine foldl_keeps (P := State.Both K) (fun u b hu => ?_) _ ht
    exact both_postIf hK _ _ (both_of_ports (s := u) (by dsimp only [setBay]) hu)
  have hsupplies : ∀ t : State, t.Both K → (postSupplies s t).Both K := by
    intro t ht
    unfold postSupplies
    exact foldl_keeps (P := State.Both K) (fun u i hu => both_postIf hK _ _ hu) _ ht
  have hzones : ∀ t : State, t.Both K → (takeZones t).Both K := by
    intro t ht
    unfold takeZones
    exact foldl_keeps (P := State.Both K) (fun u z hu => both_applyZone hK z hu) _ ht
  have hall := hzones _ (hsupplies _ (hbays _ (both_post hK .enclosure hload)))
  rw [takeSettings_eq]
  generalize takeZones (postSupplies s (takeBaySettings s (post .enclosure (takeLoad answer s)))) = t at hall ⊢
  refine both_of_ports (s := setRole t.settings.ports.preferred (dropUnmapped t)) rfl ?_
  unfold setRole
  exact both_postIf hK _ _ (both_of_ports (s := t) rfl hall)

end Posting

/-! ### The ports -/

theorem updPort_both {K : PortState → Prop} {f : PortState → PortState} (hf : ∀ x, K x → K (f x)) (p : Port)
    {s : State} (h : s.Both K) : (s.updPort p f).Both K := by
  obtain ⟨ha, hb⟩ := h
  cases p
  · exact ⟨hf _ ha, hb⟩
  · exact ⟨ha, hf _ hb⟩

theorem Move.portsOk {wide ordered : Prop} {s t : State} (h : Move wide ordered s t)
    (hs : s.Both PortState.Ok) : t.Both PortState.Ok := by
  have hpost : ∀ o x, PortState.Ok x → (x.post o).Ok := fun o _ => PortState.post_ok o
  cases h with
  | turn b f _ => exact both_changeBay hpost b f hs
  | leave b f _ _ => exact both_changeBay hpost b f (s := dequeue b s) hs
  | join b o f _ => exact both_changeBay hpost b _ (s := { s with queue := _ }) hs
  | admission t h =>
    obtain ⟨e, r, -, -, -, -, -, ht⟩ := admitOne_cases h
    rw [ht]
    exact both_startBay hpost e.bay r hs
  | trim b y _ => exact hs
  | post o => exact both_post hpost o hs
  | port p f hf => exact updPort_both hf p hs
  | other t h =>
    rw [h]
    exact hs
  | settings c _ => exact hs
  | bay w b _ => exact both_writeAndMove hpost w b hs
  | zone z a => exact both_applyZone hpost z (s := { s with settings := _ }) hs
  | sensorMap c _ => exact hs
  | period z inputs speeds =>
    obtain ⟨x, h⟩ := periodRead_only z inputs speeds s
    rw [h]
    exact hs
  | load answer => exact both_takeSettings hpost answer hs
  | plan pl _ => exact hs
  | restarted _ => exact hs

theorem PortState.elapse_ok {x : PortState} (h : x.Ok) : x.elapse.Ok := by
  obtain ⟨hlist, hr, hb, hn, ho, -, hp⟩ := h
  exact ⟨hlist, hr, hb, hn, ho, Nat.min_le_right _ _, hp⟩

/-- Settles O55: a port changes by postings, by its own link operations and by the silence of a millisecond. -/
theorem portsStayInOrder : Obligations.PortsStayInOrder := by
  intro s t hlists hlinks h
  have hok : State.Both PortState.Ok t := by
    refine step_keeps (ordered := False) (P := State.Both PortState.Ok) (fun s hs => ?_) (fun s rest hs => hs)
      (fun s hs => hs) (fun s pg => ?_) (fun s t => Move.portsOk) h nofun
      ⟨⟨hlists.1, hlinks.1⟩, hlists.2, hlinks.2⟩
    · unfold elapse
      split
      · exact hs
      · exact ⟨PortState.elapse_ok hs.1, PortState.elapse_ok hs.2⟩
    · have hreset : PortState.reset.Ok := by decide
      rw [released_only]
      exact ⟨hreset, hreset⟩
  obtain ⟨⟨hla, hka⟩, hlb, hkb⟩ := hok
  exact ⟨⟨hla, hlb⟩, hka, hkb⟩

/-! ### The settings -/

theorem Move.settingsOk {wide ordered : Prop} {s t : State} (h : Move wide ordered s t) (hs : s.SettingsOk) :
    t.SettingsOk := by
  cases h with
  | turn b f _ => rwa [State.SettingsOk, changeBay_settings]
  | leave b f _ _ => rw [State.SettingsOk, changeBay_settings]; exact hs
  | join b o f _ => rw [State.SettingsOk, changeBay_settings]; exact hs
  | admission t h =>
    obtain ⟨e, r, -, -, -, -, -, ht⟩ := admitOne_cases h
    rw [ht, State.SettingsOk, startBay_settings]
    exact hs
  | trim b y _ | post o | port p f hf | plan pl _ | restarted _ => exact hs
  | other t h =>
    rw [h]
    exact hs
  | settings c h => exact h.inRange hs
  | bay w b _ =>
    rw [writeAndMove_only]
    exact hs
  | zone z a =>
    rw [applyZone_only]
    obtain ⟨hprofiles, hzones, hrest⟩ := hs
    refine ⟨hprofiles, fun y => ?_, hrest⟩
    show ((s.settings.zones.set z (a.apply (s.zoneCfg z))).get y).InRange
    rw [get_set_eq]
    split
    · exact SetZoneArgs.apply_inRange a (hzones z)
    · exact hzones y
  | sensorMap c h => exact h.inRange hs
  | period z inputs speeds =>
    obtain ⟨x, h⟩ := periodRead_only z inputs speeds s
    rw [h]
    exact hs
  | load answer =>
    rw [State.SettingsOk, takeSettings_settings]
    exact takeLoad_inRange answer s

theorem elapse_settingsOk {s : State} (hs : s.SettingsOk) : (elapse s).SettingsOk := by
  rwa [State.SettingsOk, elapse_settings]

/-- Settles O57: the settings change by clamped writes and by a load alone. -/
theorem settingsStayInRange : Obligations.SettingsStayInRange := by
  intro s t hs h
  refine step_keeps (ordered := False) (P := State.SettingsOk) (fun s => elapse_settingsOk) (fun s rest hs => hs)
    (fun s hs => hs) (fun s pg => ?_) (fun s t => Move.settingsOk) h nofun hs
  rw [released_only]
  exact Settings.factory_inRange

end Sys2Proof.Machine

/-!
PROOF. The bay records (R1, R2, R5, R23, R43, R73, R78, R84, R90): what every move keeps of them.
-/

namespace Sys2Proof.Machine

theorem BayState.powered_cases {x : BayState} (h : x.powered) : x = .starting ∨ x = .ready := by
  cases x <;> simp_all [BayState.powered]

theorem BayState.takesPress_carrier {x : BayState} (h : x.takesPress) : x.noCarrier = false ∧ x ≠ .removable := by
  cases x <;> simp_all [BayState.takesPress, BayState.noCarrier]

theorem BayState.takesProfile_carrier {x : BayState} (h : x.takesProfile) : x.noCarrier = false := by
  cases x <;> simp_all [BayState.takesProfile, BayState.noCarrier]

theorem isSet_locateFor (sec : Nat) : (locateFor sec).isSet = true := by
  unfold locateFor
  split <;> rfl

/-- OFF and FAULT have no timer of their own. -/
theorem BayTimer.fits_off (t : BayTimer) : t.fits .off = t.fits .fault := by
  cases t <;> rfl

section Records

variable {c : Settings} {b : BayId} {x : BaySettings} {y z : Bay}

/-- A record whose indications and locate timers alone change, at the bay's LOCATE and drive-bound rules, stays in
order. -/
theorem Bay.ok_of_lights {i : PerPort IndSet} {l : PerPort LocateTimer} (hy : y.Ok x)
    (hbound : y.state.noCarrier → i.a.driveBound = false ∧ i.b.driveBound = false)
    (ha : l.a.isSet = i.a.locate) (hb : l.b.isSet = i.b.locate) :
    ({ y with indications := i, locate := l } : Bay).Ok x := by
  obtain ⟨hpresence, hflags, ⟨hcarrier, -, -⟩, hrest⟩ := hy
  refine ⟨hpresence, hflags, ⟨fun h => ?_, ha, hb⟩, hrest⟩
  obtain ⟨hprofile, hoverride, -, -⟩ := hcarrier h
  exact ⟨hprofile, hoverride, hbound h⟩

theorem Turn.ok {ordered : Prop} (h : Turn ordered c b y z) (ho : ordered) (hc : c.InRange)
    (hy : y.Ok (c.bays.get b)) : z.Ok (c.bays.get b) := by
  obtain ⟨⟨hcode, horigin, hfault, htemp⟩, ⟨hmark, hrequeue, hintended, hboth, hwas⟩,
    ⟨hcarrier, hla, hlb⟩, htimer, hatt, hmax, hattempts⟩ := id hy
  cases h with
  | settling m ms h | waits h | identified k h | requeued o h h' | unqueued h | removalAdded h
  | leftRemovable ev h | surged h | stopDone h h' h'' =>
    clear hy hc
    simp_all [Bay.Ok, Bay.PresenceOk, Bay.FlagsOk, Bay.LightsOk, BayState.noCarrier, BayState.hasOrigin,
      BayState.powered, BayTimer.fits]
  | removalCancelled h =>
    clear hy hc
    cases hw : y.wasPowered <;>
      simp_all [Bay.Ok, Bay.PresenceOk, Bay.FlagsOk, Bay.LightsOk, BayState.noCarrier, BayState.hasOrigin,
        BayState.powered, BayTimer.fits]
  | withdrawn h =>
    clear hy hc
    simp_all [Bay.Ok, Bay.PresenceOk, Bay.FlagsOk, Bay.LightsOk, BayState.noCarrier, BayState.hasOrigin,
      BayState.powered, BayTimer.fits, Bay.withdrawn]
  | faultCleared h =>
    clear hy hc
    rw [h, ← BayTimer.fits_off] at htimer
    simp_all [Bay.Ok, Bay.PresenceOk, Bay.FlagsOk, Bay.LightsOk, BayState.noCarrier, BayState.hasOrigin,
      BayState.powered]
  | tripped ms h hallow =>
    obtain ⟨hprofiles, -⟩ := hc
    obtain ⟨-, -, -, -, -, hthree, -⟩ := hprofiles y.profile
    have := hallow.trans hthree
    clear hy hprofiles
    simp_all [Bay.Ok, Bay.PresenceOk, Bay.FlagsOk, Bay.LightsOk, BayState.noCarrier, BayState.hasOrigin,
      BayState.powered, BayTimer.fits, Bay.unpowered]
  | stopped ms h | stoppedBack ms o ev h | stoppedForRemoval ms h | faulted cause h =>
    clear hy hc
    rcases BayState.powered_cases h with hs | hs <;>
      simp_all [Bay.Ok, Bay.PresenceOk, Bay.FlagsOk, Bay.LightsOk, BayState.noCarrier, BayState.hasOrigin,
        BayState.powered, BayTimer.fits, Bay.unpowered, Bay.stopped, Bay.stoppedBack, Bay.faulted]
  | emptied ev h =>
    clear hy hc
    simp_all [Bay.Ok, Bay.PresenceOk, Bay.FlagsOk, Bay.LightsOk, BayState.noCarrier, BayState.hasOrigin,
      BayTimer.fits, Bay.unpowered, Bay.emptied, PerPort.map, IndSet.locateOnly, IndSet.driveBound, IndSet.empty]
  | removable w p h =>
    simp only [List.mem_cons, List.not_mem_nil, or_false] at h
    have hfits : (removalTimer w).fits .removable = true := by
      unfold removalTimer
      split <;> rfl
    clear hy hc
    rcases h with hs | hs | hs | hs <;>
      simp_all [Bay.Ok, Bay.PresenceOk, Bay.FlagsOk, Bay.LightsOk, BayState.noCarrier, BayState.hasOrigin,
        BayState.powered, Bay.removableNow]
  | pressed | owned o => exact hy
  | attended hpress hbutton =>
    obtain ⟨hcar, hrem⟩ := BayState.takesPress_carrier hpress
    exact ⟨⟨hcode, horigin, hfault, htemp⟩, ⟨hmark, hrequeue, hintended, hboth, hwas⟩,
      ⟨hcarrier, hla, hlb⟩, htimer, fun _ => ⟨hbutton, by simp [hcar], hrem⟩, hmax, hattempts⟩
  | declined =>
    exact ⟨⟨hcode, horigin, hfault, htemp⟩, ⟨hmark, hrequeue, hintended, hboth, hwas⟩,
      ⟨hcarrier, hla, hlb⟩, htimer, nofun, hmax, hattempts⟩
  | indicated p i sec h =>
    refine Bay.ok_of_lights hy (fun hno => ?_) ?_ ?_
    all_goals clear hy hc
    · obtain ⟨-, -, hda, hdb⟩ := hcarrier hno
      simp only [hno, Bool.true_and] at h
      cases p <;> simp_all [PerPort.set, PerPort.get, IndSet.union, IndSet.driveBound]
    all_goals
      have hset := isSet_locateFor sec
      cases p <;> cases hl : i.locate <;> simp_all [PerPort.set, PerPort.get, IndSet.union]
  | unindicated p i =>
    refine Bay.ok_of_lights hy (fun hno => ?_) ?_ ?_
    all_goals clear hy hc
    · obtain ⟨-, -, hda, hdb⟩ := hcarrier hno
      cases p <;> simp_all [PerPort.set, PerPort.get, IndSet.minus, IndSet.driveBound]
    all_goals cases p <;> cases hl : i.locate <;> simp_all [PerPort.set, PerPort.get, IndSet.minus, LocateTimer.isSet]

theorem Leaves.ok (h : Leaves y z) (hq : y.state = .queued) (hy : y.Ok x) : z.Ok x := by
  obtain ⟨⟨hcode, horigin, hfault, htemp⟩, ⟨hmark, hrequeue, hintended, hboth, hwas⟩,
    ⟨hcarrier, hla, hlb⟩, htimer, hatt, hmax, hattempts⟩ := hy
  cases h with
  | withdrawn =>
    simp_all [Bay.Ok, Bay.PresenceOk, Bay.FlagsOk, Bay.LightsOk, BayState.noCarrier, BayState.hasOrigin,
      BayState.powered, BayTimer.fits, Bay.withdrawn]
  | removable w p =>
    have hfits : (removalTimer w).fits .removable = true := by
      unfold removalTimer
      split <;> rfl
    simp_all [Bay.Ok, Bay.PresenceOk, Bay.FlagsOk, Bay.LightsOk, BayState.noCarrier, BayState.hasOrigin,
      BayState.powered, Bay.removableNow]
  | emptied ev =>
    simp_all [Bay.Ok, Bay.PresenceOk, Bay.FlagsOk, Bay.LightsOk, BayState.noCarrier, BayState.hasOrigin,
      BayTimer.fits, Bay.unpowered, Bay.emptied, PerPort.map, IndSet.locateOnly, IndSet.driveBound, IndSet.empty]

theorem Joins.ok (h : Joins y z) (o : Origin) (hy : y.Ok x) :
    ({ z with state := .queued, origin := some o, timer := .idle } : Bay).Ok x := by
  obtain ⟨⟨hcode, horigin, hfault, htemp⟩, ⟨hmark, hrequeue, hintended, hboth, hwas⟩,
    ⟨hcarrier, hla, hlb⟩, htimer, hatt, hmax, hattempts⟩ := hy
  cases h with
  | off h | restored ev h | returned h h' =>
    simp_all [Bay.Ok, Bay.PresenceOk, Bay.FlagsOk, Bay.LightsOk, BayState.noCarrier, BayState.hasOrigin,
      BayState.powered, BayTimer.fits]
  | requested h =>
    simp only [List.mem_cons, List.not_mem_nil, or_false] at h
    rcases h with hs | hs <;>
      simp_all [Bay.Ok, Bay.PresenceOk, Bay.FlagsOk, Bay.LightsOk, BayState.noCarrier, BayState.hasOrigin,
        BayState.powered, BayTimer.fits]

theorem Bay.started_ok (ms : Nat) (hq : y.state = .queued) (hy : y.Ok x) : (Bay.started ms y).Ok x := by
  obtain ⟨⟨hcode, horigin, hfault, htemp⟩, ⟨hmark, hrequeue, hintended, hboth, hwas⟩,
    ⟨hcarrier, hla, hlb⟩, htimer, hatt, hmax, hattempts⟩ := hy
  simp_all [Bay.Ok, Bay.PresenceOk, Bay.FlagsOk, Bay.LightsOk, BayState.noCarrier, BayState.hasOrigin,
    BayState.powered, BayTimer.fits, Bay.started]
  omega

theorem Trims.ok (h : Trims y z) (hy : y.Ok x) : z.Ok x := by
  cases h with
  | armed | dark => exact hy
  | temp v ms hpow =>
    obtain ⟨⟨hcode, horigin, hfault, -⟩, hrest⟩ := hy
    exact ⟨⟨hcode, horigin, hfault, fun _ => hpow⟩, hrest⟩

theorem BayWrite.applyBay_ok (w : BayWrite) (hw : w.profile.isSome → y.state.takesProfile) (hy : y.Ok x) :
    (w.applyBay y).Ok (w.apply x) := by
  obtain ⟨hpresence, hflags, ⟨hcarrier, hla, hlb⟩, htimer, hatt, hmax, hattempts⟩ := hy
  rw [applyBay_eq]
  refine ⟨hpresence, hflags, ⟨fun hno => ?_, hla, hlb⟩, htimer, fun h => ?_, hmax, hattempts⟩
  · cases hp : w.profile with
    | none => simpa using hcarrier hno
    | some i =>
      have := BayState.takesProfile_carrier (hw (by simp [hp]))
      simp [this] at hno
  · simp only [Bool.and_eq_true] at h
    obtain ⟨hold, hnew⟩ := h
    refine ⟨?_, (hatt hold).2⟩
    cases hb : w.buttonEnabled with
    | none => simpa [BayWrite.apply, hb] using (hatt hold).1
    | some e => simpa [BayWrite.apply, hb] using hnew

/-- A load holds the attention request clear where button enabled is no, and gives STARTING a fresh window. -/
theorem Bay.reloaded_ok (ms : Nat) (d : BaySettings) (hy : y.Ok x) : ({ y with
    attention := y.attention && d.buttonEnabled
    timer := if y.state = .starting then .surge ms else y.timer } : Bay).Ok d := by
  obtain ⟨hpresence, hflags, hlights, htimer, hatt, hrest⟩ := hy
  refine ⟨hpresence, hflags, hlights, ?_, fun h => ?_, hrest⟩
  · show (if y.state = .starting then BayTimer.surge ms else y.timer).fits y.state
    split
    · next h => rw [h]; rfl
    · exact htimer
  · simp only [Bool.and_eq_true] at h
    obtain ⟨hold, hnew⟩ := h
    exact ⟨hnew, (hatt hold).2⟩

theorem BayTimer.fits_elapse (t : BayTimer) (s : BayState) : t.elapse.fits s = t.fits s := by
  cases t <;> cases s <;> rfl

theorem LocateTimer.isSet_elapse (t : LocateTimer) : t.elapse.isSet = t.isSet := by
  cases t <;> rfl

theorem Bay.elapse_ok (hy : y.Ok x) : y.elapse.Ok x := by
  obtain ⟨⟨hcode, horigin, hfault, htemp⟩, hflags, ⟨hcarrier, hla, hlb⟩, htimer, hrest⟩ := hy
  refine ⟨⟨hcode, horigin, hfault, fun h => htemp ?_⟩, hflags, ⟨hcarrier, ?_, ?_⟩, ?_, hrest⟩
  · simpa [Bay.elapse] using h
  · exact (LocateTimer.isSet_elapse _).trans hla
  · exact (LocateTimer.isSet_elapse _).trans hlb
  · exact (BayTimer.fits_elapse _ _).trans htimer

/-- RESTART cancels the start-up marks and the surge windows (R170). -/
theorem Bay.restarted_ok (hy : y.Ok x) : y.restarted.Ok x := by
  obtain ⟨hpresence, ⟨-, hflags⟩, hlights, htimer, hrest⟩ := hy
  refine ⟨hpresence, ⟨nofun, hflags⟩, hlights, ?_, hrest⟩
  show (if y.state = .starting then BayTimer.idle else y.timer).fits y.state
  split
  · next h => rw [h]; rfl
  · exact htimer

end Records

/-! ### The moves keep the records -/

theorem Move.baysOk {wide ordered : Prop} (ho : ordered) {s t : State} (h : Move wide ordered s t)
    (hq : s.QueueOk) (hc : s.SettingsOk) (hs : s.BaysOk) : t.BaysOk := by
  have hsame : ∀ {u : State}, u.settings = s.settings → u.bays = s.bays → u.BaysOk := fun hset hbays b => by
    rw [State.bay, State.bayCfg, hset, hbays]
    exact hs b
  have hone : ∀ {u : State} {b : BayId} {y : Bay}, u.settings = s.settings →
      (∀ d, u.bay d = if d = b then y else s.bay d) → y.Ok (s.bayCfg b) → u.BaysOk := by
    intro u b y hset hbay hy d
    rw [State.bayCfg, hset, hbay]
    split
    · next hd => rw [hd]; exact hy
    · exact hs d
  cases h with
  | turn b f h => exact hone (changeBay_settings _ _ _) (fun d => changeBay_bay _ _ _ d) (h.ok ho hc (hs b))
  | leave b f hb h =>
    exact hone (changeBay_settings _ _ _) (fun d => changeBay_bay _ _ _ d) (h.ok hb (hs b))
  | join b o f h =>
    exact hone (changeBay_settings _ _ _) (fun d => changeBay_bay _ _ _ d) (h.ok o (hs b))
  | admission t h =>
    obtain ⟨e, r, -, -, hmem, -, -, ht⟩ := admitOne_cases h
    rw [ht]
    exact hone (startBay_settings _ _ _) (fun d => startBay_bay _ _ _ _)
      (Bay.started_ok _ (hq.state_of_mem hmem) (hs _))
  | trim b y h => exact hone rfl (fun d => setBay_bay b d y s) (h.ok (hs b))
  | post o | port p f hf | plan pl _ => exact hsame rfl rfl
  | other t h =>
    rw [h]
    exact hsame rfl rfl
  | settings c h =>
    intro b
    show (s.bay b).Ok (c.bays.get b)
    rw [h.bays]
    exact hs b
  | bay w b hw =>
    intro d
    rw [writeAndMove_bay, writeAndMove_bayCfg]
    split
    · next hd => exact BayWrite.applyBay_ok w hw (hs b)
    · exact hs d
  | zone z a =>
    rw [applyZone_only]
    exact hs
  | sensorMap c h =>
    intro b
    show (s.bay b).Ok (c.bays.get b)
    rw [h.bays]
    exact hs b
  | period z inputs speeds =>
    obtain ⟨x, h⟩ := periodRead_only z inputs speeds s
    rw [h]
    exact hs
  | load answer =>
    intro b
    obtain ⟨ms, h⟩ := takeSettings_bay answer s b
    rw [h]
    exact Bay.reloaded_ok ms _ (hs b)
  | restarted _ =>
    intro b
    have hbay : ({ s with bays := s.bays.map Bay.restarted } : State).bay b = (s.bay b).restarted := get_vmap _ _ _
    rw [hbay]
    exact Bay.restarted_ok (hs b)

theorem reset_baysOk : State.reset.BaysOk := by
  intro b
  have hok : ∀ c, Bay.reset.Ok c := fun c => by
    refine ⟨?_, ?_, ?_, ?_, nofun, ?_, ?_⟩ <;> decide
  rw [reset_bay]
  exact hok _

/-- Settles O58: with the queue and the settings in order, every move of a command keeps every record in order. -/
theorem bayRecordsStayInOrder : Obligations.BayRecordsStayInOrder := by
  intro s t hq hc hs h
  obtain ⟨-, -, hok⟩ : t.QueueOk ∧ t.SettingsOk ∧ t.BaysOk := by
    refine step_keeps (ordered := True) (P := fun s => s.QueueOk ∧ s.SettingsOk ∧ s.BaysOk) (fun s hs => ?_)
      (fun s rest hs => ⟨queueOk_of_same hs.1 rfl (fun _ => rfl) (fun _ => Iff.rfl) (fun _ _ => rfl), hs.2⟩)
      (fun s hs => ?_) (fun s pg => ?_) (fun s t h hs => ?_) h (fun _ => hq) ⟨hq, hc, hs⟩
    · obtain ⟨hq, hc, hs⟩ := hs
      refine ⟨elapse_queueOk hq, elapse_settingsOk hc, fun b => ?_⟩
      rw [elapse_bay, State.bayCfg, elapse_settings]
      split
      · exact hs b
      · exact Bay.elapse_ok (hs b)
    · obtain ⟨hq, hc, hs⟩ := hs
      refine ⟨held_queueOk hq, hc, fun b => ?_⟩
      rw [held_bay]
      exact hs b
    · rw [released_only]
      exact ⟨queueOk_of_same reset_queueOk rfl (fun _ => rfl) (fun _ => Iff.rfl) (fun _ _ => rfl),
        Settings.factory_inRange, reset_baysOk⟩
    · obtain ⟨hq, hc, hs⟩ := hs
      exact ⟨h.queueOk trivial hq, h.settingsOk hc, h.baysOk trivial hq hc hs⟩
  exact hok

end Sys2Proof.Machine

/-!
PROOF. The cooling zones (R99–R119): what a fan count, written zone settings and a control period do to a zone and
its fans, and what every move keeps of them.
-/

namespace Sys2Proof.Machine

/-! ### Fans (R113–R116) -/

/-- The fan of a zone by its index. -/
def State.fan (s : State) (z : ZoneId) (i : Fin 4) : Fan := s.fans.get (fanOf z i)

theorem updFans_fan (z y : ZoneId) (i : Fin 4) (g : Fin 4 → Fan → Fan) (s : State) :
    (updFans z g s).fan y i = if y = z then g i (s.fan y i) else s.fan y i := by
  unfold updFans State.fan
  dsimp only
  rw [get_ofFn]
  have hi := i.isLt
  have hzone : (fanOf y i).val / 4 = y.val := by
    simp only [fanOf]
    omega
  have hindex : ∀ h, (⟨(fanOf y i).val % 4, h⟩ : Fin 4) = i := fun h => by
    apply Fin.ext
    simp only [fanOf]
    omega
  simp only [hzone, hindex, Fin.ext_iff]

theorem hasFailedFan_eq (s : State) (z : ZoneId) :
    s.hasFailedFan z = (List.finRange 4).any fun i => (s.fan z i).state = .failed := rfl

/-- A zone's FAILED fans are a matter of its four fans. -/
theorem hasFailedFan_congr {s t : State} {z : ZoneId} (h : ∀ i, t.fan z i = s.fan z i) :
    t.hasFailedFan z = s.hasFailedFan z := by
  rw [hasFailedFan_eq, hasFailedFan_eq]
  exact congrArg _ (funext fun i => by rw [h])

/-- What a fan's record holds whatever the fan count. -/
def Fan.RunsOk (f : Fan) : Prop :=
  f.stallRun < 3 ∧ f.recoveryRun < 3 ∧ (f.state ≠ .running → f.stallRun = 0) ∧ (f.state ≠ .failed → f.recoveryRun = 0)

theorem Fan.recount_ok {f : Fan} (n i : Nat) (h : f.RunsOk) : (f.recount n i).Ok n i := by
  obtain ⟨h1, h2, h3, h4⟩ := h
  unfold Fan.recount
  split
  · next hi =>
    split
    · exact ⟨⟨nofun, fun h => absurd h (by omega)⟩, Nat.zero_lt_succ _, Nat.zero_lt_succ _, fun _ => rfl, fun _ => rfl⟩
    · next hf => exact ⟨⟨fun h => absurd h hf, fun h => absurd h (by omega)⟩, h1, h2, h3, h4⟩
  · next hi => exact ⟨⟨fun _ => by omega, fun _ => rfl⟩, Nat.zero_lt_succ _, Nat.zero_lt_succ _, fun _ => rfl, fun _ => rfl⟩

theorem Fan.supervise_ok {f : Fan} {n i : Nat} (stall applied : Nat) (speed : BitVec 16) (h : f.Ok n i) :
    (f.supervise stall applied speed).Ok n i := by
  obtain ⟨h0, h1, h2, h3, h4⟩ := h
  unfold Fan.supervise
  split
  · exact ⟨h0, h1, h2, h3, h4⟩
  · next hs =>
    have hin : ¬n ≤ i := fun h => by simp [h0.mpr h] at hs
    have hrec : f.recoveryRun = 0 := h4 (by simp [hs])
    unfold Fan.superviseRunning
    split
    · split
      · exact ⟨⟨nofun, fun h => absurd h hin⟩, Nat.zero_lt_succ _, Nat.zero_lt_succ _, fun _ => rfl, fun _ => rfl⟩
      · refine ⟨h0, ?_, h2, fun h => absurd hs h, h4⟩
        dsimp only at *
        omega
    · exact ⟨h0, by simp, h2, fun _ => rfl, h4⟩
  · next hs =>
    have hin : ¬n ≤ i := fun h => by simp [h0.mpr h] at hs
    unfold Fan.superviseFailed
    split
    · split
      · exact ⟨⟨nofun, fun h => absurd h hin⟩, Nat.zero_lt_succ _, Nat.zero_lt_succ _, fun _ => rfl, fun _ => rfl⟩
      · refine ⟨h0, h1, ?_, h3, fun h => absurd hs h⟩
        dsimp only at *
        omega
    · exact ⟨h0, h1, by simp, h3, fun _ => rfl⟩

/-! ### Zones -/

theorem setZone_zone (z y : ZoneId) (x : Zone) (s : State) :
    (setZone z x s).zone y = if y = z then x else s.zone y := get_set_eq s.zones z y x

theorem setZone_fan (z y : ZoneId) (i : Fin 4) (x : Zone) (s : State) : (setZone z x s).fan y i = s.fan y i := rfl

theorem postIf_fan (c : Bool) (o : Obj) (s : State) (z : ZoneId) (i : Fin 4) :
    (postIf c o s).fan z i = s.fan z i := by
  cases c <;> rfl

theorem postIf_zone (c : Bool) (o : Obj) (s : State) (z : ZoneId) : (postIf c o s).zone z = s.zone z := by
  cases c <;> rfl

theorem updFans_zone (z y : ZoneId) (g : Fin 4 → Fan → Fan) (s : State) : (updFans z g s).zone y = s.zone y := rfl

/-- What a fan count does to its zone, before the posting. -/
theorem recountFans_eq (z : ZoneId) (s : State) : ∃ c, recountFans z s
    = postIf c (.zone z) (setZone z
        { (updFans z (fun i f => f.recount (s.zoneCfg z).fanCount i.val) s).zone z with
          degraded := (updFans z (fun i f => f.recount (s.zoneCfg z).fanCount i.val) s).hasFailedFan z }
        (updFans z (fun i f => f.recount (s.zoneCfg z).fanCount i.val) s)) := ⟨_, rfl⟩

/-- The fans after a fan count has acted. -/
theorem recountFans_fan (z y : ZoneId) (i : Fin 4) (s : State) : (recountFans z s).fan y i
    = if y = z then (s.fan y i).recount (s.zoneCfg z).fanCount i.val else s.fan y i := by
  obtain ⟨c, h⟩ := recountFans_eq z s
  rw [h, postIf_fan, setZone_fan, updFans_fan]

theorem recountFans_zone (z y : ZoneId) (s : State) : (recountFans z s).zone y
    = if y = z then { s.zone z with degraded := (recountFans z s).hasFailedFan z } else s.zone y := by
  have hf : (recountFans z s).hasFailedFan z
      = (updFans z (fun i f => f.recount (s.zoneCfg z).fanCount i.val) s).hasFailedFan z :=
    hasFailedFan_congr fun i => by rw [recountFans_fan, updFans_fan]
  rw [hf]
  obtain ⟨c, h⟩ := recountFans_eq z s
  rw [h, postIf_zone, setZone_zone, updFans_zone, updFans_zone]

theorem recountFans_zoneCfg (z y : ZoneId) (s : State) : (recountFans z s).zoneCfg y = s.zoneCfg y := by
  rw [recountFans_only]
  generalize (recountFans z s).zones = zs
  generalize (recountFans z s).fans = fs
  generalize (recountFans z s).ports = ps
  rfl

/-- What written zone settings do beside the fan count: the effective ceiling and the reservation duty (R112). -/
theorem applyZone_eq (z : ZoneId) (s : State) : applyZone z s = setZone z
    (((recountFans z s).zone z).rated ((recountFans z s).zoneCfg z).ceiling) (recountFans z s) := by
  unfold applyZone
  rfl

theorem applyZone_fan (z y : ZoneId) (i : Fin 4) (s : State) :
    (applyZone z s).fan y i = (recountFans z s).fan y i := by
  rw [applyZone_eq, setZone_fan]

theorem applyZone_zone (z y : ZoneId) (s : State) : (applyZone z s).zone y
    = if y = z then ({ s.zone z with degraded := (applyZone z s).hasFailedFan z } : Zone).rated (s.zoneCfg z).ceiling
      else s.zone y := by
  rw [hasFailedFan_congr (t := applyZone z s) (s := recountFans z s) (applyZone_fan z z · s), applyZone_eq,
    setZone_zone, recountFans_zoneCfg]
  split
  · rw [recountFans_zone, if_pos rfl]
  · next h => rw [recountFans_zone, if_neg h]

theorem applyZone_zoneCfg (z y : ZoneId) (s : State) : (applyZone z s).zoneCfg y = s.zoneCfg y := by
  rw [applyZone_only]
  generalize (applyZone z s).zones = zs
  generalize (applyZone z s).fans = fs
  generalize (applyZone z s).ports = ps
  rfl

/-- What a zone's record holds whatever its settings. -/
def Zone.DutiesOk (x : Zone) : Prop :=
  x.blind = x.temp.isNone ∧ TempInRange x.temp ∧ TempInRange x.curveInput ∧ x.applied ≤ 100 ∧ x.demand ≤ 100
  ∧ x.boost ≤ 40

/-- A zone and its fans are in order but for what its settings say. -/
def State.ZoneRaw (s : State) (z : ZoneId) : Prop := (s.zone z).DutiesOk ∧ ∀ i, (s.fan z i).RunsOk

/-- A zone and its fans are in order. -/
def State.ZoneOk (s : State) (z : ZoneId) : Prop :=
  (s.zone z).Ok (s.zoneCfg z) ∧ (s.zone z).degraded = s.hasFailedFan z
  ∧ ∀ i, (s.fan z i).Ok (s.zoneCfg z).fanCount i.val

theorem State.ZoneOk.raw {s : State} {z : ZoneId} (h : s.ZoneOk z) : s.ZoneRaw z := by
  obtain ⟨⟨h1, h2, h3, -, -, h4⟩, -, hf⟩ := h
  exact ⟨⟨h1, h2, h3, h4⟩, fun i => (hf i).2⟩

/-- The sensors and the drive temperatures are in order. -/
def State.ReadingsOk (s : State) : Prop :=
  (∀ i : SensorId, TempInRange (s.sensors.get i).reading
      ∧ (s.sensors.get i).valid = (s.sensors.get i).reading.isSome
      ∧ (s.settings.sensorMap.get i = none → (s.sensors.get i).reading = none))
  ∧ (∀ b : BayId, TempInRange ((s.bay b).temp.map (·.value)))

theorem zonesOk_iff {s : State} : s.ZonesOk ↔ (∀ z, s.ZoneOk z) ∧ s.ReadingsOk := by
  constructor
  · intro ⟨hz, hf, hr⟩
    exact ⟨fun z => ⟨(hz z).1, (hz z).2, hf z⟩, hr⟩
  · intro ⟨hz, hr⟩
    exact ⟨fun z => ⟨(hz z).1, (hz z).2.1⟩, fun z => (hz z).2.2, hr⟩

/-- A zone depends on its own record, its fans, its ceiling and its fan count. -/
theorem zoneOk_congr {s t : State} {z : ZoneId} (hz : t.zone z = s.zone z) (hf : ∀ i, t.fan z i = s.fan z i)
    (hceil : (t.zoneCfg z).ceiling = (s.zoneCfg z).ceiling)
    (hcount : (t.zoneCfg z).fanCount = (s.zoneCfg z).fanCount) (h : s.ZoneOk z) : t.ZoneOk z := by
  obtain ⟨⟨h1, h2, h3, h4, h5⟩, hd, hfan⟩ := h
  refine ⟨⟨?_, ?_, ?_, ?_, ?_⟩, ?_, fun i => ?_⟩
  · rw [hz, h1]
  · rwa [hz]
  · rwa [hz]
  · rw [hz, hceil, h4]
  · rwa [hz]
  · rw [hz, hd, hasFailedFan_congr hf]
  · rw [hf, hcount]
    exact hfan i

theorem Zone.rated_degraded (n : Nat) (x : Zone) : (x.rated n).degraded = x.degraded := rfl

theorem Zone.rated_ok {c : ZoneSettings} {x : Zone} (h : x.DutiesOk) : (x.rated c.ceiling).Ok c := by
  obtain ⟨h1, h2, h3, h4⟩ := h
  exact ⟨h1, h2, h3, rfl, rfl, h4⟩

/-- Written settings of a zone leave it in order (R112, R113). -/
theorem applyZone_ok {z : ZoneId} {s : State} (h : s.ZoneRaw z) : (applyZone z s).ZoneOk z := by
  obtain ⟨hduties, hf⟩ := h
  have hc := applyZone_zoneCfg z z s
  have hz := applyZone_zone z z s
  rw [if_pos rfl] at hz
  refine ⟨?_, by rw [hz, Zone.rated_degraded], fun i => ?_⟩
  · rw [hz, hc]
    generalize (applyZone z s).hasFailedFan z = d
    exact Zone.rated_ok hduties
  · rw [applyZone_fan, recountFans_fan, if_pos rfl, hc]
    exact Fan.recount_ok _ _ (hf i)

theorem applyZone_other {z y : ZoneId} (hne : y ≠ z) (s : State) :
    (applyZone z s).zone y = s.zone y ∧ (∀ i, (applyZone z s).fan y i = s.fan y i)
    ∧ (applyZone z s).zoneCfg y = s.zoneCfg y := by
  refine ⟨by rw [applyZone_zone, if_neg hne], fun i => ?_, applyZone_zoneCfg z y s⟩
  rw [applyZone_fan, recountFans_fan, if_neg hne]

/-- Taking up every zone's settings leaves every zone in order. -/
theorem takeZones_ok {s : State} (h : ∀ z, s.ZoneRaw z) (z : ZoneId) : (takeZones s).ZoneOk z := by
  have hfold : ∀ (zs : List ZoneId) (t : State), (∀ z, t.ZoneRaw z) →
      ∀ z, z ∈ zs ∨ t.ZoneOk z → (zs.foldl (fun t z => applyZone z t) t).ZoneOk z := by
    intro zs
    induction zs with
    | nil => exact fun t _ z hz => hz.resolve_left (List.not_mem_nil)
    | cons y zs ih =>
      intro t ht z hz
      rw [List.foldl_cons]
      refine ih _ (fun x => ?_) z ?_
      · by_cases hx : x = y
        · rw [hx]
          exact (applyZone_ok (ht y)).raw
        · obtain ⟨h1, h2, -⟩ := applyZone_other hx t
          exact ⟨by rw [h1]; exact (ht x).1, fun i => by rw [h2]; exact (ht x).2 i⟩
      · by_cases hx : z = y
        · rw [hx]
          exact .inr (applyZone_ok (ht y))
        · obtain ⟨h1, h2, h3⟩ := applyZone_other hx t
          rcases hz with hz | hz
          · exact .inl ((List.mem_cons.mp hz).resolve_left hx)
          · exact .inr (zoneOk_congr h1 h2 (by rw [h3]) (by rw [h3]) hz)
  unfold takeZones
  exact hfold _ s h z (.inl (List.mem_finRange z))

/-! ### The control period (R104–R112) -/

theorem hottest_mem {l : List Int} {t : Int} (h : hottest l = some t) : t ∈ l := by
  induction l generalizing t with
  | nil => cases h
  | cons u rest ih =>
    unfold hottest at h
    split at h
    · cases h
      exact List.mem_cons_self
    · next v hv =>
      cases h
      rcases max_choice u v with hm | hm
      · rw [hm]
        exact List.mem_cons_self
      · rw [hm]
        exact List.mem_cons_of_mem u (ih hv)

/-- Every input of a zone lies in the range of a temperature. -/
theorem zoneInputs_inRange {s : State} (h : s.ReadingsOk) (z : ZoneId) :
    TempInRange (hottest (s.zoneInputs z)) := by
  intro t ht
  have hmem := hottest_mem ht
  obtain ⟨hsensors, htemps⟩ := h
  simp only [State.zoneInputs, List.mem_append, List.mem_filterMap] at hmem
  rcases hmem with ⟨i, -, hi⟩ | ⟨b, -, hb⟩
  · split at hi
    · exact (hsensors i).1 t hi
    · cases hi
  · unfold State.tempOf at hb
    split at hb
    · split at hb
      · cases hb
      · next d hd =>
        split at hb
        · cases hb
          exact htemps b d.value (by simp [hd])
        · cases hb
    · cases hb

theorem stepInput_inRange {t : Int} (n : Nat) {h : Option Int} (ht : -40 ≤ t ∧ t ≤ 125) (hh : TempInRange h) :
    -40 ≤ stepInput n t h ∧ stepInput n t h ≤ 125 := by
  unfold stepInput
  split
  · exact ht
  · next u =>
    have hu := hh u rfl
    split
    · exact ht
    · omega

theorem demanded_le {c : ZoneSettings} {x : Zone} (hc : c.InRange) (hx : x.ceiling ≤ 100) : x.demanded c ≤ 100 := by
  obtain ⟨hfloor, hceil, -⟩ := hc
  unfold Zone.demanded
  split
  · exact le_rfl
  · split
    · exact hx
    · split <;> omega

theorem slew_le {up down demand applied : Nat} (hd : demand ≤ 100) (ha : applied ≤ 100) :
    slew up down demand applied ≤ 100 := by
  unfold slew
  split <;> omega

/-- A control period leaves its zone's record in order, from inputs in range. -/
theorem periodZone_ok {s : State} {z : ZoneId} (hc : (s.zoneCfg z).InRange) (hin : TempInRange (hottest (s.zoneInputs z)))
    (h : (s.zone z).Ok (s.zoneCfg z)) : (s.periodZone z).Ok (s.zoneCfg z) := by
  obtain ⟨-, -, h3, h4, h5, h6, h7, h8⟩ := h
  have hboost : s.zoneBoost z ≤ 40 := Nat.min_le_left _ _
  have hceil : ∀ o : Bool, (if o then 100 else (s.zoneCfg z).ceiling) ≤ 100 := fun o => by
    obtain ⟨-, hle, -⟩ := hc
    cases o
    · exact hle
    · exact le_rfl
  unfold State.periodZone
  dsimp only [Zone.withTemp, Zone.judgedIf]
  generalize hottest (s.zoneInputs z) = t at hin
  cases t with
  | none =>
    have hd := demanded_le (x := { s.zone z with
        temp := none, blind := true, degraded := s.hasFailedFan z, boost := s.zoneBoost z }) hc
      (by rw [h4]; exact hceil _)
    exact ⟨rfl, nofun, h3, h4, rfl, slew_le hd h6, hd, hboost⟩
  | some t =>
    have hd := demanded_le (x := { (({ s.zone z with
        temp := some t, blind := false, degraded := s.hasFailedFan z } : Zone).judged (s.zoneCfg z) t) with
        boost := s.zoneBoost z }) hc (hceil _)
    refine ⟨rfl, hin, fun u hu => ?_, rfl, rfl, slew_le hd h6, hd, hboost⟩
    cases hu
    exact stepInput_inRange _ (hin t rfl) h3

theorem periodZone_degraded (s : State) (z : ZoneId) : (s.periodZone z).degraded = s.hasFailedFan z := by
  unfold State.periodZone Zone.withTemp Zone.judgedIf
  dsimp only
  split <;> rfl

end Sys2Proof.Machine

/-!
PROOF. Every move keeps the zones, fans, sensors and drive temperatures in order (R99–R119).
-/

namespace Sys2Proof.Machine

/-! ### Drive temperatures -/

section Temperatures

variable {c : Settings} {b : BayId} {y z : Bay}

/-- A change of a bay record keeps its drive temperature, or drops it. -/
theorem Turn.temp {ordered : Prop} (h : Turn ordered c b y z) : z.temp = y.temp ∨ z.temp = none := by
  cases h with
  | settling m ms h | waits h | identified k h | requeued o h h' | unqueued h | removalAdded h | removalCancelled h
  | removable w p h | leftRemovable ev h | surged h | withdrawn h | stopDone h h' h'' | faultCleared h | pressed
  | attended h h' | declined | indicated p i sec h | unindicated p i | owned o => exact .inl rfl
  | emptied ev h | stopped ms h | stoppedBack ms o ev h | stoppedForRemoval ms h | tripped ms h h'
  | faulted cause h => exact .inr rfl

theorem Leaves.temp (h : Leaves y z) : z.temp = y.temp ∨ z.temp = none := by
  cases h with
  | withdrawn | removable w p => exact .inl rfl
  | emptied ev => exact .inr rfl

theorem Joins.temp (h : Joins y z) : z.temp = y.temp := by
  cases h <;> rfl

/-- The drive temperature of a record lies in its range. -/
abbrev Bay.TempOk (y : Bay) : Prop := TempInRange (y.temp.map (·.value))

theorem tempOk_of (h : z.temp = y.temp ∨ z.temp = none) (hy : y.TempOk) : z.TempOk := by
  rcases h with h | h
  · rwa [Bay.TempOk, h]
  · rw [Bay.TempOk, h]
    exact nofun

theorem Trims.tempOk (h : Trims y z) (hy : y.TempOk) : z.TempOk := by
  cases h with
  | armed | dark => exact hy
  | temp v ms _ =>
    intro x hx
    cases hx
    exact clampInt_between (by decide) v

theorem Bay.elapse_tempOk (hy : y.TempOk) : y.elapse.TempOk := by
  have h : y.elapse.temp.map (·.value) = y.temp.map (·.value) := by
    show (y.temp.map DriveTemp.elapse).map (·.value) = _
    rw [Option.map_map]
    rfl
  rwa [Bay.TempOk, h]

end Temperatures

/-! ### Sensors -/

/-- A sensor is in order: valid exactly with a reading, which lies in its range. -/
def Sensor.Ok (x : Sensor) : Prop := TempInRange x.reading ∧ x.valid = x.reading.isSome

theorem readSensor_ok (v : Option Int) : (readSensor v).Ok := by
  unfold readSensor
  split
  · exact ⟨nofun, rfl⟩
  · next t =>
    split
    · next h =>
      refine ⟨fun x hx => ?_, rfl⟩
      cases hx
      exact h
    · exact ⟨nofun, rfl⟩

theorem readSensors_ok (z : ZoneId) (inputs : Vector (Option Int) 8) {s : State} (h : s.ReadingsOk) :
    (readSensors z inputs s).ReadingsOk := by
  obtain ⟨hsensors, htemps⟩ := h
  refine ⟨fun i => ?_, htemps⟩
  have hget : (readSensors z inputs s).sensors.get i
      = if s.settings.sensorMap.get i = some z then readSensor (inputs.get i) else s.sensors.get i := get_ofFn _ _
  rw [hget]
  split
  · next hmap =>
    obtain ⟨hrange, hvalid⟩ := readSensor_ok (inputs.get i)
    refine ⟨hrange, hvalid, fun hnone => ?_⟩
    rw [show (readSensors z inputs s).settings = s.settings from rfl, hmap] at hnone
    cases hnone
  · exact hsensors i

theorem dropUnmapped_sensor (s : State) (i : SensorId) : (dropUnmapped s).sensors.get i
    = if (s.settings.sensorMap.get i).isNone then { reading := none, valid := false } else s.sensors.get i :=
  get_ofFn _ _

/-- Dropping the readings of unmapped sensors makes readings fit any map (R121). -/
theorem dropUnmapped_readings {s t : State} (hsensors : t.sensors = (dropUnmapped s).sensors)
    (hmap : t.settings.sensorMap = s.settings.sensorMap) (h : ∀ i, (s.sensors.get i).Ok)
    (ht : ∀ b, (t.bay b).TempOk) : t.ReadingsOk := by
  refine ⟨fun i => ?_, ht⟩
  rw [hsensors, hmap, dropUnmapped_sensor]
  split
  · exact ⟨nofun, rfl, fun _ => rfl⟩
  · next hsome =>
    refine ⟨(h i).1, (h i).2, fun hnone => ?_⟩
    simp [hnone] at hsome

theorem readingsOk_sensor {s : State} (h : s.ReadingsOk) (i : SensorId) : (s.sensors.get i).Ok :=
  ⟨(h.1 i).1, (h.1 i).2.1⟩

theorem readingsOk_of_temps {s t : State} (h : s.ReadingsOk) (hsensors : t.sensors = s.sensors)
    (hmap : t.settings.sensorMap = s.settings.sensorMap) (htemps : ∀ b, (t.bay b).TempOk) : t.ReadingsOk := by
  refine ⟨fun i => ?_, htemps⟩
  rw [hsensors, hmap]
  exact h.1 i

/-! ### The control period -/

theorem periodRead_eq (z : ZoneId) (inputs : Vector (Option Int) 8) (speeds : Vector (BitVec 16) 4) (s : State) :
    periodRead z inputs speeds s = setZone z ((readSensors z inputs (superviseFans z speeds s)).periodZone z)
      (readSensors z inputs (superviseFans z speeds s)) := rfl

theorem superviseFans_fan (z y : ZoneId) (i : Fin 4) (speeds : Vector (BitVec 16) 4) (s : State) :
    (superviseFans z speeds s).fan y i
      = if y = z then (s.fan y i).supervise (s.zoneCfg z).stallSpeed (s.zone z).applied (speeds.get i)
        else s.fan y i := updFans_fan z y i _ s

theorem readSensors_fan (z y : ZoneId) (i : Fin 4) (inputs : Vector (Option Int) 8) (s : State) :
    (readSensors z inputs s).fan y i = s.fan y i := by
  unfold readSensors
  rfl

/-- A control period leaves its zone in order, and every other as it was. -/
theorem periodRead_ok {z : ZoneId} (inputs : Vector (Option Int) 8) (speeds : Vector (BitVec 16) 4) {s : State}
    (hc : s.SettingsOk) (h : s.ZonesOk) : (periodRead z inputs speeds s).ZonesOk := by
  obtain ⟨hzones, hreadings⟩ := zonesOk_iff.mp h
  have hread : (readSensors z inputs (superviseFans z speeds s)).ReadingsOk := by
    refine readSensors_ok z inputs (readingsOk_of_temps hreadings ?_ ?_ hreadings.2) <;>
      (unfold superviseFans updFans; rfl)
  have hfan : ∀ y i, (readSensors z inputs (superviseFans z speeds s)).fan y i
      = if y = z then (s.fan y i).supervise (s.zoneCfg z).stallSpeed (s.zone z).applied (speeds.get i)
        else s.fan y i := fun y i => by rw [readSensors_fan, superviseFans_fan]
  have hzone : ∀ y, (readSensors z inputs (superviseFans z speeds s)).zone y = s.zone y := fun y => by
    unfold readSensors superviseFans updFans
    rfl
  have hcfg : ∀ y, (readSensors z inputs (superviseFans z speeds s)).zoneCfg y = s.zoneCfg y := fun y => by
    unfold readSensors superviseFans updFans
    rfl
  rw [periodRead_eq]
  generalize readSensors z inputs (superviseFans z speeds s) = t at *
  refine zonesOk_iff.mpr ⟨fun y => ?_, hread⟩
  have hfailed : (setZone z (t.periodZone z) t).hasFailedFan y = t.hasFailedFan y :=
    hasFailedFan_congr fun i => setZone_fan z y i _ t
  have hcfg' : (setZone z (t.periodZone z) t).zoneCfg y = s.zoneCfg y := hcfg y
  obtain ⟨hok, hdeg, hfans⟩ := hzones y
  refine ⟨?_, ?_, fun i => ?_⟩
  · rw [setZone_zone, hcfg']
    split
    · next hy =>
      rw [hy, ← hcfg z]
      refine periodZone_ok (by rw [hcfg]; exact hc.zoneCfg_inRange z) (zoneInputs_inRange hread z) ?_
      rw [hcfg, hzone, ← hy]
      exact hok
    · rw [hzone]
      exact hok
  · rw [setZone_zone, hfailed]
    split
    · next hy => rw [hy, periodZone_degraded]
    · next hy =>
      rw [hzone, hdeg]
      exact (hasFailedFan_congr fun i => by rw [hfan, if_neg hy]).symm
  · rw [setZone_fan, hfan, hcfg']
    split
    · exact Fan.supervise_ok _ _ _ (hfans i)
    · exact hfans i

/-! ### The moves -/

theorem Move.zonesOk {wide ordered : Prop} {s t : State} (h : Move wide ordered s t) (hc : s.SettingsOk)
    (hs : s.ZonesOk) : t.ZonesOk := by
  obtain ⟨hzones, hreadings⟩ := zonesOk_iff.mp hs
  have htemps := hreadings.2
  have hbays : ∀ {u : State}, u.zones = s.zones → u.fans = s.fans → u.sensors = s.sensors → u.settings = s.settings →
      (∀ b, (u.bay b).TempOk) → u.ZonesOk := by
    intro u h1 h2 h3 h4 h5
    refine zonesOk_iff.mpr ⟨fun z => zoneOk_congr (by rw [State.zone, h1]; rfl)
      (fun i => by rw [State.fan, h2]; rfl) (by rw [State.zoneCfg, h4]; rfl) (by rw [State.zoneCfg, h4]; rfl)
      (hzones z), readingsOk_of_temps hreadings h3 (by rw [h4]) h5⟩
  have hone : ∀ {u : State} {b : BayId} {y : Bay}, (∀ d, u.bay d = if d = b then y else s.bay d) → y.TempOk →
      ∀ d, (u.bay d).TempOk := by
    intro u b y hbay hy d
    rw [hbay]
    split
    · exact hy
    · exact htemps d
  cases h with
  | turn b f h =>
    exact hbays (changeBay_zones _ _ _) (changeBay_fans _ _ _) (changeBay_sensors _ _ _) (changeBay_settings _ _ _)
      (hone (fun d => changeBay_bay _ _ _ d) (tempOk_of h.temp (htemps b)))
  | leave b f hb h =>
    exact hbays (changeBay_zones _ _ _) (changeBay_fans _ _ _) (changeBay_sensors _ _ _) (changeBay_settings _ _ _)
      (hone (fun d => changeBay_bay _ _ _ d) (tempOk_of h.temp (htemps b)))
  | join b o f h =>
    exact hbays (changeBay_zones _ _ _) (changeBay_fans _ _ _) (changeBay_sensors _ _ _) (changeBay_settings _ _ _)
      (hone (fun d => changeBay_bay _ _ _ d) (tempOk_of (.inl h.temp) (htemps b)))
  | admission t h =>
    obtain ⟨e, r, -, -, -, -, -, ht⟩ := admitOne_cases h
    obtain ⟨gap, totals, total, lost, shed, ps, pl, hstart⟩ := startBay_frame e.bay r s
    have hbay := fun d => startBay_bay e.bay d r s
    rw [ht]
    refine hbays ?_ ?_ ?_ ?_ (hone hbay (htemps e.bay)) <;> rw [hstart]
  | trim b y h => exact hbays rfl rfl rfl rfl (hone (fun d => setBay_bay b d y s) (h.tempOk (htemps b)))
  | post o | port p f hf | plan pl _ => exact hbays rfl rfl rfl rfl htemps
  | other t h =>
    rw [h]
    exact hbays rfl rfl rfl rfl htemps
  | settings c h =>
    refine zonesOk_iff.mpr ⟨fun z => zoneOk_congr (s := s) rfl (fun _ => rfl) (h.ceiling z) (h.fanCount z) (hzones z),
      readingsOk_of_temps hreadings rfl h.sensorMap htemps⟩
  | bay w b _ =>
    have hbay := fun d => writeAndMove_bay w b d s
    have htemp : ∀ d, ((writeAndMove w b s).bay d).TempOk := hone hbay (by
      rw [applyBay_eq]
      exact htemps b)
    rw [writeAndMove_only] at htemp ⊢
    exact zonesOk_iff.mpr ⟨fun z => zoneOk_congr rfl (fun _ => rfl) rfl rfl (hzones z),
      readingsOk_of_temps hreadings rfl rfl htemp⟩
  | zone z a =>
    refine zonesOk_iff.mpr ⟨fun y => ?_, ?_⟩
    · by_cases hy : y = z
      · rw [hy]
        exact applyZone_ok (hzones z).raw
      · obtain ⟨h1, h2, h3⟩ := applyZone_other hy
          { s with settings := s.settings.withZone z (a.apply (s.zoneCfg z)) }
        have hcfg : (s.settings.withZone z (a.apply (s.zoneCfg z))).zones.get y = s.settings.zones.get y :=
          (get_set_eq _ _ _ _).trans (if_neg hy)
        exact zoneOk_congr (s := s) h1 h2 (by rw [h3]; exact congrArg _ hcfg) (by rw [h3]; exact congrArg _ hcfg)
          (hzones y)
    · rw [applyZone_only]
      exact readingsOk_of_temps hreadings rfl rfl htemps
  | sensorMap c h =>
    refine zonesOk_iff.mpr ⟨fun z => ?_, dropUnmapped_readings rfl rfl (s := { s with settings := c })
      (readingsOk_sensor (s := s) hreadings) htemps⟩
    have hcfg : c.zones.get z = s.settings.zones.get z := by rw [h.zones]
    exact zoneOk_congr (s := s) rfl (fun _ => rfl) (congrArg _ hcfg) (congrArg _ hcfg) (hzones z)
  | period z inputs speeds => exact periodRead_ok inputs speeds hc hs
  | load answer =>
    have htemp : ∀ b, ((takeSettings answer s).bay b).TempOk := fun b => by
      obtain ⟨ms, hb⟩ := takeSettings_bay answer s b
      rw [hb]
      exact htemps b
    obtain ⟨bays, zones, fans, ps, p, h, -, -, bays', ps', hzs, hfs⟩ := takeSettings_frame answer s
    have hload := takeLoad_only answer s
    have htake : ∀ z, (takeZones { takeLoad answer s with bays := bays', ports := ps' }).ZoneOk z :=
      takeZones_ok fun z => by
        rw [hload]
        exact (hzones z).raw
    have htakeCfg : ∀ z, (takeZones { takeLoad answer s with bays := bays', ports := ps' }).zoneCfg z
        = (takeLoad answer s).zoneCfg z := fun z => by
      rw [takeZones_only]
      generalize (takeZones { takeLoad answer s with bays := bays', ports := ps' }).zones = a
      generalize (takeZones { takeLoad answer s with bays := bays', ports := ps' }).fans = b
      generalize (takeZones { takeLoad answer s with bays := bays', ports := ps' }).ports = d
      rfl
    have hsensor : ∀ i, ((takeLoad answer s).sensors.get i).Ok := fun i => by
      rw [hload]
      exact readingsOk_sensor hreadings i
    rw [h] at htemp ⊢
    generalize takeZones { takeLoad answer s with bays := bays', ports := ps' } = u at *
    generalize takeLoad answer s = l at *
    refine zonesOk_iff.mpr ⟨fun z => ?_, ?_⟩
    · refine zoneOk_congr (s := u) ?_ (fun i => ?_) ?_ ?_ (htake z)
      · rw [hzs]; rfl
      · rw [hfs]; rfl
      · rw [htakeCfg]; rfl
      · rw [htakeCfg]; rfl
    · exact dropUnmapped_readings (s := { l with
        bays := bays, zones := zones, fans := fans, ports := ps, controlling := p }) rfl rfl hsensor htemp
  | restarted _ =>
    refine hbays rfl rfl rfl rfl fun b => ?_
    have hbay : ({ s with bays := s.bays.map Bay.restarted } : State).bay b = (s.bay b).restarted := get_vmap _ _ _
    rw [hbay]
    exact htemps b

theorem reset_zonesOk : State.reset.ZonesOk := by
  refine zonesOk_iff.mpr ⟨fun z => ⟨?_, ?_, fun i => ?_⟩, fun i => ?_, fun b => ?_⟩
  · have hzone : State.reset.zone z = Zone.reset := get_replicate _ _
    rw [hzone, reset_zoneCfg]
    exact ⟨rfl, nofun, nofun, rfl, rfl, by decide, by decide, by decide⟩
  · have hzone : State.reset.zone z = Zone.reset := get_replicate _ _
    rw [hzone]
    revert z
    decide
  · rw [reset_zoneCfg]
    revert z i
    decide
  · have hsensor : State.reset.sensors.get i = { reading := none, valid := false } := get_replicate _ _
    rw [hsensor]
    exact ⟨nofun, rfl, fun _ => rfl⟩
  · rw [reset_bay]
    exact nofun

theorem elapse_zonesOk {s : State} (hs : s.ZonesOk) : (elapse s).ZonesOk := by
  obtain ⟨hzones, hreadings⟩ := zonesOk_iff.mp hs
  have htemps : ∀ b, ((elapse s).bay b).TempOk := fun b => by
    rw [elapse_bay]
    split
    · exact hreadings.2 b
    · exact Bay.elapse_tempOk (hreadings.2 b)
  have hrest : (elapse s).fans = s.fans ∧ (elapse s).sensors = s.sensors := by
    unfold elapse
    split <;> exact ⟨rfl, rfl⟩
  obtain ⟨hfans, hsensors⟩ := hrest
  refine zonesOk_iff.mpr ⟨fun z => ?_, readingsOk_of_temps hreadings hsensors (by rw [elapse_settings]) htemps⟩
  have hfan : ∀ i, (elapse s).fan z i = s.fan z i := fun i => by rw [State.fan, hfans]; rfl
  have hcfg : (elapse s).zoneCfg z = s.zoneCfg z := by rw [State.zoneCfg, elapse_settings]; rfl
  obtain ⟨hok, hdeg, hf⟩ := hzones z
  have hzone : ∃ ms, (elapse s).zone z = { s.zone z with periodMs := ms } := by
    unfold elapse
    split
    · exact ⟨_, rfl⟩
    · exact ⟨_, get_vmap _ _ _⟩
  obtain ⟨ms, hzone⟩ := hzone
  refine ⟨?_, ?_, fun i => ?_⟩
  · rw [hzone, hcfg]
    exact hok
  · rw [hzone, hasFailedFan_congr hfan]
    exact hdeg
  · rw [hfan, hcfg]
    exact hf i

/-- Settles O60: with the settings in range, every move of a command keeps zones, fans, sensors and drive
temperatures in order. -/
theorem zonesStayInOrder : Obligations.ZonesStayInOrder := by
  intro s t hc hs h
  obtain ⟨-, hok⟩ : t.SettingsOk ∧ t.ZonesOk := by
    refine step_keeps (ordered := False) (P := fun s => s.SettingsOk ∧ s.ZonesOk)
      (fun s hs => ⟨elapse_settingsOk hs.1, elapse_zonesOk hs.2⟩) (fun s rest hs => hs)
      (fun s hs => ⟨hs.1, ?_⟩) (fun s pg => ?_) (fun s t h hs => ⟨h.settingsOk hs.1, h.zonesOk hs.1 hs.2⟩) h nofun
      ⟨hc, hs⟩
    · obtain ⟨hzones, hreadings⟩ := zonesOk_iff.mp hs.2
      refine zonesOk_iff.mpr ⟨hzones, readingsOk_of_temps hreadings rfl rfl fun b => ?_⟩
      rw [held_bay]
      exact hreadings.2 b
    · rw [released_only]
      exact ⟨Settings.factory_inRange, reset_zonesOk⟩
  exact hok

end Sys2Proof.Machine

/-!
PROOF. What no command but the reset pin's touches: the waiting commands, the pin, the light frame. Every command
completes (9.2), and the state after reset holds every invariant.
-/

namespace Sys2Proof.Machine

/-- No move touches the waiting commands, the reset pin or the light frame. -/
theorem Move.rest {wide ordered : Prop} {s t : State} (h : Move wide ordered s t) :
    t.pending = s.pending ∧ t.resetHeld = s.resetHeld ∧ t.frame = s.frame := by
  cases h with
  | turn b f h => exact ⟨changeBay_pending _ _ _, changeBay_resetHeld _ _ _, changeBay_frameMs _ _ _⟩
  | leave b f hb h => exact ⟨changeBay_pending _ _ _, changeBay_resetHeld _ _ _, changeBay_frameMs _ _ _⟩
  | join b o f h => exact ⟨changeBay_pending _ _ _, changeBay_resetHeld _ _ _, changeBay_frameMs _ _ _⟩
  | admission t h =>
    obtain ⟨e, r, -, -, -, -, -, ht⟩ := admitOne_cases h
    obtain ⟨gap, totals, total, lost, shed, ps, pl, hstart⟩ := startBay_frame e.bay r s
    rw [ht, hstart]
    exact ⟨rfl, rfl, rfl⟩
  | trim b y h | post o | port p f hf | settings c h | plan pl hw | restarted hw => exact ⟨rfl, rfl, rfl⟩
  | other t h =>
    rw [h]
    exact ⟨rfl, rfl, rfl⟩
  | bay w b hw =>
    rw [writeAndMove_only]
    exact ⟨rfl, rfl, rfl⟩
  | zone z a =>
    rw [applyZone_only]
    exact ⟨rfl, rfl, rfl⟩
  | sensorMap c h => exact ⟨rfl, rfl, rfl⟩
  | period z inputs speeds =>
    obtain ⟨x, h⟩ := periodRead_only z inputs speeds s
    rw [h]
    exact ⟨rfl, rfl, rfl⟩
  | load answer =>
    obtain ⟨bays, zones, fans, ps, p, h, -⟩ := takeSettings_frame answer s
    rw [h, takeLoad_only]
    exact ⟨rfl, rfl, rfl⟩

theorem Chain.rest {wide ordered : Prop} {s t : State} (h : Chain wide ordered s t) :
    t.pending = s.pending ∧ t.resetHeld = s.resetHeld ∧ t.frame = s.frame :=
  h.keeps (P := fun u => u.pending = s.pending ∧ u.resetHeld = s.resetHeld ∧ u.frame = s.frame)
    (fun u v huv hu => by
      obtain ⟨h1, h2, h3⟩ := huv.rest
      exact ⟨h1.trans hu.1, h2.trans hu.2.1, h3.trans hu.2.2⟩)
    ⟨rfl, rfl, rfl⟩

/-- Settles O2: a command but the reset pin's is a chain of moves, and the pin's two leave the waiting commands. -/
theorem execCompletesAndKeepsTheQueue : Obligations.ExecCompletesAndKeepsTheQueue := by
  intro c s
  cases hc : drivesReset c with
  | false =>
    obtain ⟨t, ht, hchain⟩ := exec_chain (ordered := False) c (s := s) hc nofun
    exact ⟨t, ht, hchain.rest.1⟩
  | true =>
    cases c with
    | resetAssert => exact ⟨_, rfl, rfl⟩
    | resetRelease presence powerGood =>
      exact ⟨_, rfl, (chain_resetRelease (wide := False) (ordered := False) presence powerGood s).rest.1⟩
    | _ => cases hc

/-! ### The state after reset -/

theorem reset_planOk : State.reset.PlanOk := by
  refine ⟨?_, ?_, ?_, ?_, ?_, ?_, ?_⟩ <;> decide

/-- Settles O52. -/
theorem resetHoldsEveryInvariant : Obligations.ResetHoldsEveryInvariant := by
  have hport : PortState.reset.Ok := by decide
  refine ⟨reset_queueOk, fun b => ?_, ⟨hport.1, hport.1⟩, ?_, Settings.factory_inRange, reset_baysOk, reset_planOk,
    reset_zonesOk, ⟨hport.2, hport.2⟩, by decide⟩
  · rw [reset_bay]
    rfl
  · refine ⟨?_, ?_, ?_, ?_, ?_⟩ <;> decide

end Sys2Proof.Machine

/-!
PROOF. The Plan Engine (R126–R137): what the review of a changed bay, a step's end and every command keep of the
plan.
-/

namespace Sys2Proof.Machine

/-! ### A plan in order, but for the end of an abort -/

/-- The plan is in order beside the bays that stay pending, but for the end of an abort. -/
def Plan.LooseOk (pl : Plan) (stays : BayId → Prop) : Prop :=
  pl.ItemsOk ∧ pl.waitOk ∧ pl.pendingSet.Nodup ∧ pl.lost ≤ 60 ∧ (∀ b ∈ pl.pendingSet, stays b)
  ∧ (pl.engine = .running → pl.awaitsSettled → pl.pendingSet ≠ [])

/-- The bay meets one of the conditions under which it stays in the pending set (R132). -/
def State.Stays (s : State) (b : BayId) : Prop := (s.bay b).staysPending = true

theorem planOk_iff {s : State} :
    s.PlanOk ↔ s.plan.LooseOk s.Stays ∧ (s.plan.engine = .aborting → s.planStarting) := by
  constructor
  · intro ⟨h1, h2, h3, h4, h5, h6, h7⟩
    exact ⟨⟨h1, h2, h3, h4, h5, h6⟩, h7⟩
  · intro ⟨⟨h1, h2, h3, h4, h5, h6⟩, h7⟩
    exact ⟨h1, h2, h3, h4, h5, h6, h7⟩

theorem Plan.LooseOk.mono {pl : Plan} {p q : BayId → Prop} (h : pl.LooseOk p)
    (hpq : ∀ b ∈ pl.pendingSet, p b → q b) : pl.LooseOk q := by
  obtain ⟨h1, h2, h3, h4, h5, h6⟩ := h
  exact ⟨h1, h2, h3, h4, fun b hb => hpq b hb (h5 b hb), h6⟩

/-- A plan with no step in progress runs no wait timer. -/
theorem Plan.LooseOk.idle {pl : Plan} {p : BayId → Prop} (h : pl.LooseOk p) (ht : pl.awaitsTime = false) :
    pl.wait = .idle := by
  obtain ⟨-, hw, -⟩ := h
  unfold Plan.waitOk at hw
  split at hw
  · assumption
  · simp [ht] at hw
  · simp [ht] at hw

theorem Plan.waitOk_idle {pl : Plan} (hw : pl.wait = .idle) (ht : pl.awaitsTime = false) : pl.waitOk := by
  simp [Plan.waitOk, hw, ht]

theorem Plan.awaitsTime_of_not {pl : Plan} (h : pl.inProgress = false) : pl.awaitsTime = false := by
  simp [Plan.awaitsTime, h]

theorem Plan.awaitsSettled_of_not {pl : Plan} (h : pl.inProgress = false) : pl.awaitsSettled = false := by
  simp [Plan.awaitsSettled, h]

/-- A WAIT_SETTLED step is no WAIT_TIME step. -/
theorem Plan.awaitsTime_of_settled {pl : Plan} (h : pl.awaitsSettled) : pl.awaitsTime = false := by
  simp only [Plan.awaitsSettled, Bool.and_eq_true, decide_eq_true_eq] at h
  simp [Plan.awaitsTime, h.2]

/-- What a plan with no step in progress asks. -/
theorem Plan.looseOk_between {pl : Plan} {p : BayId → Prop} (hstep : pl.inProgress = false) (hwait : pl.wait = .idle)
    (hout : pl.outcome.isSome = decide (pl.engine = .done)) (howner : pl.owner.isSome = decide (pl.engine ≠ .idle))
    (hcur : pl.current.isSome = decide (pl.engine ≠ .idle))
    (hset : pl.engine.active = false → pl.pendingSet = [] ∧ pl.lost = 0) (hnodup : pl.pendingSet.Nodup)
    (hlost : pl.lost ≤ 60) (hstays : ∀ b ∈ pl.pendingSet, p b) : pl.LooseOk p := by
  refine ⟨⟨hout, howner, hcur, hset, ?_, ?_⟩, Plan.waitOk_idle hwait (Plan.awaitsTime_of_not hstep), hnodup, hlost,
    hstays, ?_⟩
  · simp [hstep]
  · simp [hstep]
  · simp [Plan.awaitsSettled_of_not hstep]

/-! ### A step's end -/

/-- The plan after the end of its step in slot `i` (R128). -/
def Plan.stepEnded (pl : Plan) (i : SlotId) (r : StepResult) (n : Nat) : Plan :=
  let now := { pl with
    steps := pl.steps.set i { pl.steps.get i with result := r, refused := n }
    notified := if (pl.steps.get i).notify then some (i, r) else pl.notified
    inProgress := false }
  if (pl.steps.get i).last then { now with engine := .done, outcome := some .complete, pendingSet := [], lost := 0 }
  else { now with current := some (pl.steps.get i).next }

theorem endStep_plan {s : State} {i : SlotId} (hi : s.plan.current = some i) (r : StepResult) (n : Nat) :
    (endStep r n s).plan = s.plan.stepEnded i r n := by
  unfold endStep Plan.stepEnded
  rw [hi]
  dsimp only
  split
  · rw [← hi]
    rfl
  · rw [postIf_only]

theorem Plan.stepEnded_looseOk {pl : Plan} {p : BayId → Prop} (i : SlotId) (r : StepResult) (n : Nat)
    (hrun : pl.engine = .running) (hout : pl.outcome = none) (howner : pl.owner.isSome)
    (hcur : pl.current.isSome) (hwait : pl.wait = .idle) (hnodup : pl.pendingSet.Nodup)
    (hlost : pl.lost ≤ 60) (hstays : ∀ b ∈ pl.pendingSet, p b) :
    (pl.stepEnded i r n).LooseOk p ∧ (pl.stepEnded i r n).engine ≠ .aborting := by
  unfold Plan.stepEnded
  dsimp only
  split
  · exact ⟨Plan.looseOk_between rfl hwait rfl howner hcur (fun _ => ⟨rfl, rfl⟩) .nil (Nat.zero_le _) nofun, nofun⟩
  · refine ⟨Plan.looseOk_between rfl hwait ?_ ?_ ?_ ?_ hnodup hlost hstays, ?_⟩
    · simp [hrun, hout]
    · simpa [hrun] using howner
    · simp [hrun]
    · simp [hrun, EngineState.active]
    · simp [hrun]

/-- A step's end on a running plan whose wait timer is idle leaves the plan in order, running or done. -/
theorem endStep_looseOk {s : State} {p : BayId → Prop} (r : StepResult) (n : Nat)
    (hrun : s.plan.engine = .running) (hout : s.plan.outcome = none) (howner : s.plan.owner.isSome)
    (hcur : s.plan.current.isSome) (hwait : s.plan.wait = .idle) (hnodup : s.plan.pendingSet.Nodup)
    (hlost : s.plan.lost ≤ 60) (hstays : ∀ b ∈ s.plan.pendingSet, p b) :
    (endStep r n s).plan.LooseOk p ∧ (endStep r n s).plan.engine ≠ .aborting := by
  obtain ⟨i, hi⟩ := Option.isSome_iff_exists.mp hcur
  rw [endStep_plan hi]
  exact Plan.stepEnded_looseOk i r n hrun hout howner hcur hwait hnodup hlost hstays

theorem Plan.LooseOk.running {pl : Plan} {p : BayId → Prop} (h : pl.LooseOk p) (hrun : pl.engine = .running) :
    pl.outcome = none ∧ pl.owner.isSome ∧ pl.current.isSome := by
  obtain ⟨⟨hout, howner, hcur, -⟩, -⟩ := h
  refine ⟨?_, by simpa [hrun] using howner, by simpa [hrun] using hcur⟩
  simpa [hrun] using hout

theorem endWaitSettled_looseOk {s : State} {p : BayId → Prop} (h : s.plan.LooseOk p) (hrun : s.plan.engine = .running)
    (hset : s.plan.awaitsSettled) :
    (endWaitSettled s).plan.LooseOk p ∧ (endWaitSettled s).plan.engine ≠ .aborting := by
  obtain ⟨hout, howner, hcur⟩ := h.running hrun
  exact endStep_looseOk (s := { s with plan := { s.plan with pendingSet := [], lost := 0 } }) _ _ hrun hout howner hcur
    (h.idle (Plan.awaitsTime_of_settled hset)) .nil (Nat.zero_le _) nofun

/-! ### The end of an abort -/

theorem finishAbort_plan (s : State) : (finishAbort s).plan
    = { s.plan with engine := .done, outcome := some .aborted, pendingSet := [], lost := 0 } := rfl

theorem finishAbort_looseOk {s : State} {p q : BayId → Prop} (h : s.plan.LooseOk p) (he : s.plan.engine ≠ .idle)
    (hstep : s.plan.inProgress = false) : (finishAbort s).plan.LooseOk q := by
  have hwait := h.idle (Plan.awaitsTime_of_not hstep)
  obtain ⟨⟨-, howner, hcur, -⟩, -⟩ := h
  rw [finishAbort_plan]
  exact Plan.looseOk_between hstep hwait rfl (by simpa [he] using howner) (by simpa [he] using hcur)
    (fun _ => ⟨rfl, rfl⟩) .nil (Nat.zero_le _) nofun

theorem Plan.LooseOk.not_inProgress {pl : Plan} {p : BayId → Prop} (h : pl.LooseOk p) (h1 : pl.engine ≠ .running)
    (h2 : pl.engine ≠ .paused) : pl.inProgress = false := by
  obtain ⟨⟨-, -, -, -, hstep, -⟩, -⟩ := h
  cases hp : pl.inProgress with
  | false => rfl
  | true => exact absurd (hstep hp) (by simp [h1, h2])

/-! ### The review of a changed bay (R132, R133, R137) -/

/-- The pending set without a bay that no longer stays pending is what a departure leaves of it. -/
theorem depart_looseOk {b : BayId} {s : State} (h : s.plan.LooseOk fun c => c ≠ b → s.Stays c)
    (hb : b ∈ s.plan.pendingSet) (hset : ¬((depart b s).plan.engine = .running ∧ (depart b s).plan.awaitsSettled
      ∧ (depart b s).plan.pendingSet = [])) : (depart b s).plan.LooseOk s.Stays := by
  obtain ⟨⟨hout, howner, hcur, hactive, hstep, hact⟩, hwait, hnodup, hlost, hstays, -⟩ := h
  unfold depart at hset ⊢
  split at hset
  · next hs =>
    rw [if_pos hs]
    refine ⟨⟨hout, howner, hcur, hactive, hstep, hact⟩, hwait, hnodup, hlost, fun c hc => ?_,
      fun h1 h2 h3 => hset ⟨h1, h2, h3⟩⟩
    by_cases hcb : c = b
    · rw [hcb]
      exact hs
    · exact hstays c hc hcb
  · next hs =>
    rw [if_neg hs]
    refine ⟨⟨hout, howner, hcur, fun hidle => ?_, hstep, hact⟩, hwait, hnodup.erase b, ?_, fun c hc => ?_,
      fun h1 h2 h3 => hset ⟨h1, h2, h3⟩⟩
    · rw [(hactive hidle).1] at hb
      exact absurd hb List.not_mem_nil
    · dsimp only
      split
      · exact hlost
      · exact Nat.min_le_right _ _
    · obtain ⟨hcb, hc⟩ := hnodup.mem_erase_iff.mp hc
      exact hstays c hc hcb

/-- A departure on a running plan leaves it ready for the end of its WAIT_SETTLED step. -/
theorem depart_items (b : BayId) (s : State) : (depart b s).plan = { s.plan with
    pendingSet := (depart b s).plan.pendingSet, lost := (depart b s).plan.lost } := by
  unfold depart
  split <;> rfl

theorem depart_bay (b c : BayId) (s : State) : (depart b s).bay c = s.bay c := by
  unfold depart
  split <;> rfl

/-- The review of a changed bay leaves the plan in order where it was so for every other bay. -/
theorem planReview_planOk {b : BayId} {s : State} (h : s.plan.LooseOk fun c => c ≠ b → s.Stays c) :
    (planReview b s).plan.LooseOk s.Stays
    ∧ ((s.plan.engine = .aborting → b ∈ s.plan.pendingSet ∨ s.planStarting) →
        (planReview b s).plan.engine = .aborting → (planReview b s).planStarting) := by
  by_cases hb : b ∈ s.plan.pendingSet
  · unfold planReview
    rw [if_pos hb]
    dsimp only
    have hitems := depart_items b s
    split
    · next hend =>
      simp only [Bool.and_eq_true, decide_eq_true_eq] at hend
      obtain ⟨⟨hrun, hset⟩, -⟩ := hend
      have hrun' : s.plan.engine = .running := by rw [hitems] at hrun; exact hrun
      have hset' : s.plan.awaitsSettled := by rw [hitems] at hset; exact hset
      obtain ⟨hout, howner, hcur⟩ := h.running hrun'
      have hwait := h.idle (Plan.awaitsTime_of_settled hset')
      have hok := endStep_looseOk (p := s.Stays) (s := { depart b s with plan := { (depart b s).plan with
        pendingSet := [], lost := 0 } }) .done (min (depart b s).plan.lost 8) hrun
        (by rw [hitems]; exact hout) (by rw [hitems]; exact howner) (by rw [hitems]; exact hcur)
        (by rw [hitems]; exact hwait) .nil (Nat.zero_le _) nofun
      exact ⟨hok.1, fun _ habort => absurd habort hok.2⟩
    · next hend =>
      have hloose : (depart b s).plan.LooseOk s.Stays := depart_looseOk h hb fun ⟨h1, h2, h3⟩ =>
        hend (by simp [h1, h2, h3])
      split
      · next hab =>
        simp only [Bool.and_eq_true, decide_eq_true_eq] at hab
        have hne : (depart b s).plan.engine ≠ .idle := by simp [hab.1]
        have hstep := hloose.not_inProgress (by simp [hab.1]) (by simp [hab.1])
        exact ⟨finishAbort_looseOk hloose hne hstep, fun _ => nofun⟩
      · next hab =>
        refine ⟨hloose, fun _ habort => ?_⟩
        simpa [habort] using hab
  · rw [planReview_of_not_mem hb]
    refine ⟨h.mono fun c hc hstay => hstay fun hcb => hb (hcb ▸ hc), fun hab habort => ?_⟩
    exact (hab habort).resolve_left hb

/-! ### Changes of a bay -/

/-- A change of a bay is its record written, posted, and reviewed. -/
theorem changeBay_review (b : BayId) (f : Bay → Bay) (s : State) : ∃ u, changeBay b f s = planReview b u
    ∧ u.plan = s.plan ∧ ∀ c, u.bay c = if c = b then f (s.bay b) else s.bay c := by
  refine ⟨_, rfl, ?_, fun c => ?_⟩
  · rw [postBay_only]
    rfl
  · rw [postBay_only]
    exact setBay_bay b c _ s

theorem planReview_bay (b c : BayId) (s : State) : (planReview b s).bay c = s.bay c := by
  obtain ⟨pl, ps, h⟩ := planReview_frame b s
  rw [h]
  rfl

/-- Whether an abort still waits for a start, by the plan and the bays. -/
theorem planStarting_iff (s : State) : s.planStarting = true
    ↔ ∃ b ∈ s.plan.pendingSet, (s.bay b).state = .starting ∧ (s.bay b).origin = some .plan := by
  simp [State.planStarting]

theorem changeBay_looseOk (b : BayId) (f : Bay → Bay) {s : State}
    (h : s.plan.LooseOk fun c => c ≠ b → s.Stays c) :
    (changeBay b f s).plan.LooseOk (changeBay b f s).Stays
    ∧ ((s.plan.engine = .aborting → s.planStarting) →
        (changeBay b f s).plan.engine = .aborting → (changeBay b f s).planStarting) := by
  obtain ⟨u, hu, hplan, hbay⟩ := changeBay_review b f s
  have hstays : ∀ c, c ≠ b → (u.Stays c ↔ s.Stays c) := fun c hc => by
    rw [State.Stays, hbay, if_neg hc]
    rfl
  have hsame : (planReview b u).Stays = u.Stays := funext fun c => by rw [State.Stays, planReview_bay]; rfl
  obtain ⟨hloose, hstart⟩ := planReview_planOk (b := b) (s := u) (by
    rw [hplan]
    exact h.mono fun c _ hc hcb => (hstays c hcb).mpr (hc hcb))
  rw [hu, hsame]
  refine ⟨hloose, fun hab => hstart fun habort => ?_⟩
  rw [hplan] at habort ⊢
  obtain ⟨c, hc, hcs⟩ := (planStarting_iff s).mp (hab habort)
  by_cases hcb : c = b
  · exact .inl (hcb ▸ hc)
  · refine .inr ((planStarting_iff u).mpr ⟨c, hplan ▸ hc, ?_⟩)
    rw [hbay, if_neg hcb]
    exact hcs

theorem changeBay_planOk (b : BayId) (f : Bay → Bay) {s : State} (h : s.PlanOk) : (changeBay b f s).PlanOk := by
  obtain ⟨hloose, hab⟩ := planOk_iff.mp h
  obtain ⟨h1, h2⟩ := changeBay_looseOk b f (hloose.mono fun _ _ hc _ => hc)
  exact planOk_iff.mpr ⟨h1, h2 hab⟩

/-! ### The moves -/

/-- The plan is in order by its own fields and by state, requeue on stop and origin of the bays. -/
theorem planOk_congr {s t : State} (hplan : t.plan = s.plan) (hbay : ∀ c, (t.bay c).state = (s.bay c).state
    ∧ (t.bay c).requeue = (s.bay c).requeue ∧ (t.bay c).origin = (s.bay c).origin) (h : s.PlanOk) : t.PlanOk := by
  obtain ⟨hloose, hab⟩ := planOk_iff.mp h
  have hstays : t.Stays = s.Stays := funext fun c => by
    obtain ⟨h1, h2, h3⟩ := hbay c
    rw [State.Stays, State.Stays, Bay.staysPending, Bay.staysPending, h1, h2, h3]
  refine planOk_iff.mpr ⟨by rw [hplan, hstays]; exact hloose, fun habort => ?_⟩
  rw [hplan] at habort
  obtain ⟨c, hc, h1, h2⟩ := (planStarting_iff s).mp (hab habort)
  obtain ⟨h3, -, h4⟩ := hbay c
  exact (planStarting_iff t).mpr ⟨c, hplan ▸ hc, h3.trans h1, h4.trans h2⟩

theorem planOk_same {s t : State} (hplan : t.plan = s.plan) (hbays : t.bays = s.bays) (h : s.PlanOk) : t.PlanOk :=
  planOk_congr hplan (fun c => by rw [State.bay, hbays]; exact ⟨rfl, rfl, rfl⟩) h

theorem recompute_plan (s : State) : (recompute s).plan = s.plan := by
  obtain ⟨ps, h⟩ := recompute_frame s
  rw [h]

theorem recompute_bays (s : State) : (recompute s).bays = s.bays := by
  obtain ⟨ps, h⟩ := recompute_frame s
  rw [h]

/-- An admission is a change of its bay, then changes that touch neither plan nor bays. -/
theorem startBay_plan (b : BayId) (q : List Entry) (s : State) : (startBay b q s).plan
    = (changeBay b (Bay.started (s.profile b).surgeTime) { s with queue := q }).plan := by
  rw [startBay, recompute_plan]

theorem startBay_bays (b : BayId) (q : List Entry) (s : State) : (startBay b q s).bays
    = (changeBay b (Bay.started (s.profile b).surgeTime) { s with queue := q }).bays := by
  rw [startBay, recompute_bays]

/-- A move that does not write the plan is a change of a bay, as far as the plan can tell, or no change at all. -/
theorem Move.seenByPlan {wide ordered : Prop} {s t : State} (h : Move wide ordered s t) (hw : ¬wide) :
    (t.plan = s.plan ∧ ∀ c, (t.bay c).state = (s.bay c).state ∧ (t.bay c).requeue = (s.bay c).requeue
      ∧ (t.bay c).origin = (s.bay c).origin)
    ∨ ∃ b f u, u.plan = s.plan ∧ u.bays = s.bays ∧ t.plan = (changeBay b f u).plan ∧ t.bays = (changeBay b f u).bays := by
  have hsame : ∀ {u : State}, u.plan = s.plan → u.bays = s.bays → u.plan = s.plan
      ∧ ∀ c, (u.bay c).state = (s.bay c).state ∧ (u.bay c).requeue = (s.bay c).requeue
        ∧ (u.bay c).origin = (s.bay c).origin := fun hp hb =>
    ⟨hp, fun c => by rw [State.bay, hb]; exact ⟨rfl, rfl, rfl⟩⟩
  cases h with
  | turn b f h => exact .inr ⟨b, f, s, rfl, rfl, rfl, rfl⟩
  | leave b f hb h => exact .inr ⟨b, f, dequeue b s, rfl, rfl, rfl, rfl⟩
  | join b o f h =>
    exact .inr ⟨b, fun y => { f y with state := .queued, origin := some o, timer := .idle }, { s with
      queue := insertEntry { bay := b, level := (s.bayCfg b).level, origin := o, bypass := 0 } s.queue },
      rfl, rfl, rfl, rfl⟩
  | admission t h =>
    obtain ⟨e, r, -, -, -, -, -, ht⟩ := admitOne_cases h
    rw [ht]
    exact .inr ⟨e.bay, _, { s with queue := r }, rfl, rfl, startBay_plan _ _ _, startBay_bays _ _ _⟩
  | trim b y h =>
    refine .inl ⟨rfl, fun c => ?_⟩
    rw [setBay_bay]
    split
    · next hc =>
      rw [hc]
      cases h <;> exact ⟨rfl, rfl, rfl⟩
    · exact ⟨rfl, rfl, rfl⟩
  | post o | port p f hf | settings c h | sensorMap c h => exact .inl (hsame rfl rfl)
  | other t h => exact .inl (hsame (by rw [h]) (by rw [h]))
  | bay w b hw =>
    refine .inl ⟨by rw [writeAndMove_only], fun c => ?_⟩
    rw [writeAndMove_bay, applyBay_eq]
    split
    · next hc =>
      rw [hc]
      exact ⟨rfl, rfl, rfl⟩
    · exact ⟨rfl, rfl, rfl⟩
  | zone z a => exact .inl (hsame (by rw [applyZone_only]) (by rw [applyZone_only]))
  | period z inputs speeds =>
    obtain ⟨x, h⟩ := periodRead_only z inputs speeds s
    exact .inl (hsame (by rw [h]) (by rw [h]))
  | load answer =>
    refine .inl ⟨?_, fun c => ?_⟩
    · obtain ⟨bays, zones, fans, ps, p, h, -⟩ := takeSettings_frame answer s
      rw [h]
      dsimp only [freshWindows, resortQueue, dropUnmapped]
      rw [takeLoad_only]
    · obtain ⟨ms, h⟩ := takeSettings_bay answer s c
      rw [h]
      exact ⟨rfl, rfl, rfl⟩
  | plan pl h | restarted h => exact absurd h hw

/-- A move that does not write the plan keeps it in order. -/
theorem Move.planOk {wide ordered : Prop} {s t : State} (h : Move wide ordered s t) (hw : ¬wide) (hs : s.PlanOk) :
    t.PlanOk := by
  rcases h.seenByPlan hw with ⟨hp, hb⟩ | ⟨b, f, u, hup, hub, htp, htb⟩
  · exact planOk_congr hp hb hs
  · exact planOk_same htp htb (changeBay_planOk b f (planOk_same hup hub hs))

end Sys2Proof.Machine

/-!
PROOF. The plan's own commands, TAKEOVER and RESTART keep the plan in order (R124–R137, R149, R170), and so every
step does.
-/

namespace Sys2Proof.Machine

theorem Chain.planOk {ordered : Prop} {s t : State} (h : Chain False ordered s t) (hs : s.PlanOk) : t.PlanOk :=
  h.keeps (fun _ _ hm => hm.planOk id) hs

/-! ### The plan between steps -/

/-- A plan that is not under way has no step in progress, and no bay to abort. -/
theorem planOk_inactive {s : State} (h : s.PlanOk) (ha : s.plan.engine.active = false) :
    s.plan.inProgress = false ∧ s.plan.wait = .idle ∧ s.plan.pendingSet = [] ∧ s.plan.lost = 0 := by
  obtain ⟨hloose, -⟩ := planOk_iff.mp h
  have hstep := hloose.not_inProgress (fun h => by simp [h, EngineState.active] at ha)
    (fun h => by simp [h, EngineState.active] at ha)
  have hwait := hloose.idle (Plan.awaitsTime_of_not hstep)
  obtain ⟨⟨-, -, -, hactive, -⟩, -⟩ := hloose
  exact ⟨hstep, hwait, hactive ha⟩

theorem setPlan_bay (pl : Plan) (s : State) (c : BayId) : (setPlan pl s).bay c = s.bay c := rfl

/-- A written plan that is not ABORTING is in order where its own items are, beside the bays. -/
theorem setPlan_planOk {pl : Plan} {s : State} (h : pl.LooseOk s.Stays) (he : pl.engine ≠ .aborting) :
    (setPlan pl s).PlanOk :=
  planOk_iff.mpr ⟨h, fun hab => absurd hab he⟩

theorem post_planOk {o : Obj} {s : State} (h : s.PlanOk) : (post o s).PlanOk := planOk_same rfl rfl h

theorem endStep_bay (r : StepResult) (n : Nat) (s : State) (c : BayId) : (endStep r n s).bay c = s.bay c := by
  obtain ⟨pl, ps, h⟩ := endStep_frame r n s
  rw [h]
  rfl

/-- A step's end on a running plan whose wait timer is idle leaves the plan in order. -/
theorem endStep_planOk {s : State} (r : StepResult) (n : Nat) (hrun : s.plan.engine = .running)
    (hout : s.plan.outcome = none) (howner : s.plan.owner.isSome) (hcur : s.plan.current.isSome)
    (hwait : s.plan.wait = .idle) (hnodup : s.plan.pendingSet.Nodup) (hlost : s.plan.lost ≤ 60)
    (hstays : ∀ b ∈ s.plan.pendingSet, s.Stays b) : (endStep r n s).PlanOk := by
  obtain ⟨hloose, hne⟩ := endStep_looseOk r n hrun hout howner hcur hwait hnodup hlost hstays
  refine planOk_iff.mpr ⟨?_, fun hab => absurd hab hne⟩
  exact hloose.mono fun b _ hb => by rw [State.Stays, endStep_bay]; exact hb

/-! ### WRITE STEP, START PLAN, PAUSE and RESUME -/

theorem writeStep_planOk (a : WriteStepArgs) {s : State} (hs : s.PlanOk) : (writeStepAct a s).state.PlanOk := by
  unfold writeStepAct
  split
  · exact hs
  · next ha =>
    split
    · exact hs
    · obtain ⟨hstep, hwait, hset, hlost⟩ := planOk_inactive hs (by simpa using ha)
      obtain ⟨⟨⟨hout, howner, hcur, -⟩, -⟩, -⟩ := planOk_iff.mp hs
      refine setPlan_planOk (Plan.looseOk_between hstep hwait hout howner hcur (fun _ => ⟨hset, hlost⟩) ?_ ?_ ?_) ?_
      · simp [hset]
      · simp [hlost]
      · simp [hset]
      · intro hab
        have hengine : s.plan.engine = .aborting := hab
        simp [hengine, EngineState.active] at ha

theorem startPlan_planOk (p : Port) (i : SlotId) (c : List SlotId) (s : State) : (startPlan p i c s).PlanOk :=
  post_planOk (setPlan_planOk
    (Plan.looseOk_between rfl rfl rfl rfl rfl (fun h => by cases h) .nil (Nat.zero_le _) nofun) nofun)

/-- The wait timer as PAUSE leaves it: a running one freezes (R135). -/
def WaitTimer.paused : WaitTimer → WaitTimer
  | .running n => .frozen n
  | w => w

/-- The wait timer as RESUME leaves it: a frozen one counts on (R135). -/
def WaitTimer.resumed : WaitTimer → WaitTimer
  | .frozen n => .running n
  | w => w

/-- PAUSE stops a RUNNING engine, and changes nothing else (R135). -/
theorem pauseAct_state (u : Unit) (s : State) : (pauseAct u s).state = if s.plan.engine = .running then
    post .plan (setPlan { s.plan with engine := .paused, wait := s.plan.wait.paused } s) else s := by
  unfold pauseAct
  cases he : s.plan.engine <;> rfl

theorem resumePlan_eq (s : State) : resumePlan s
    = if s.plan.awaitsSettled && s.plan.pendingSet.isEmpty then
        endWaitSettled (post .plan (setPlan { s.plan with engine := .running, wait := s.plan.wait.resumed } s))
      else post .plan (setPlan { s.plan with engine := .running, wait := s.plan.wait.resumed } s) := by
  unfold resumePlan
  cases hw : s.plan.wait <;> rfl

theorem pause_planOk (u : Unit) {s : State} (hs : s.PlanOk) : (pauseAct u s).state.PlanOk := by
  rw [pauseAct_state]
  split
  · next hrun =>
    obtain ⟨⟨⟨hout, howner, hcur, -, hstep, hact⟩, hwait, hnodup, hlost, hstays, -⟩, -⟩ := planOk_iff.mp hs
    refine post_planOk (setPlan_planOk ⟨⟨?_, ?_, ?_, nofun, fun _ => .inr rfl, hact⟩, ?_, hnodup, hlost, hstays, nofun⟩
      nofun)
    · simpa [hrun] using hout
    · simpa [hrun] using howner
    · simpa [hrun] using hcur
    · unfold Plan.waitOk at hwait ⊢
      cases hw : s.plan.wait <;>
        simp_all [Plan.awaitsTime, Plan.currentStep, WaitTimer.paused]
  · exact hs

theorem resumePlan_planOk {s : State} (hs : s.PlanOk) (hpaused : s.plan.engine = .paused) : (resumePlan s).PlanOk := by
  obtain ⟨hloose, -⟩ := planOk_iff.mp hs
  obtain ⟨⟨hout, howner, hcur, -, hstep, hact⟩, hwait, hnodup, hlost, hstays, -⟩ := id hloose
  have hout' : s.plan.outcome = none := by simpa [hpaused] using hout
  have howner' : s.plan.owner.isSome := by simpa [hpaused] using howner
  have hcur' : s.plan.current.isSome := by simpa [hpaused] using hcur
  rw [resumePlan_eq]
  split
  · next hend =>
    simp only [Bool.and_eq_true] at hend
    have hidle := hloose.idle (Plan.awaitsTime_of_settled hend.1)
    refine endStep_planOk _ _ rfl hout' howner' hcur' ?_ .nil (Nat.zero_le _) nofun
    show s.plan.wait.resumed = .idle
    rw [hidle]
    rfl
  · next hend =>
    refine post_planOk (setPlan_planOk ⟨⟨?_, ?_, ?_, nofun, fun _ => .inl rfl, hact⟩, ?_, hnodup, hlost, hstays,
      fun _ h1 h2 => hend ?_⟩ nofun)
    · simp [hout']
    · simpa using howner'
    · simpa using hcur'
    · unfold Plan.waitOk at hwait ⊢
      cases hw : s.plan.wait <;>
        simp_all [Plan.awaitsTime, Plan.currentStep, WaitTimer.resumed]
    · rw [Bool.and_eq_true]
      exact ⟨h1, List.isEmpty_iff.mpr h2⟩

theorem resume_planOk (u : Unit) {s : State} (hs : s.PlanOk) : (resumeAct u s).state.PlanOk := by
  unfold resumeAct
  split
  · next hpaused => exact resumePlan_planOk hs hpaused
  all_goals exact hs

/-! ### ABORT PLAN (R136, R137) -/

/-- An abort under way or done: the plan is in order but for the abort's end. -/
def State.Ending (s : State) : Prop :=
  s.plan.LooseOk s.Stays ∧ (s.plan.engine = .aborting ∨ s.plan.engine = .done)

theorem Ending.inProgress {s : State} (h : s.Ending) : s.plan.inProgress = false := by
  obtain ⟨hloose, he⟩ := h
  refine hloose.not_inProgress ?_ ?_ <;> rcases he with he | he <;> simp [he]

/-- The review of a bay during an abort leaves it under way, or ends it. -/
theorem planReview_engine (b : BayId) {s : State} (he : s.plan.engine = .aborting ∨ s.plan.engine = .done) :
    (planReview b s).plan.engine = .aborting ∨ (planReview b s).plan.engine = .done := by
  unfold planReview
  split
  · have hitems : (depart b s).plan.engine = s.plan.engine := by rw [depart_items]
    have hne : (depart b s).plan.engine ≠ .running := by
      rw [hitems]
      rcases he with he | he <;> simp [he]
    dsimp only
    split
    · next hend => simp [hne] at hend
    · split
      · exact .inr rfl
      · rw [hitems]
        exact he
  · exact he

theorem changeBay_ending (b : BayId) (f : Bay → Bay) {s : State} (h : s.Ending) : (changeBay b f s).Ending := by
  obtain ⟨hloose, he⟩ := h
  refine ⟨(changeBay_looseOk b f (hloose.mono fun _ _ hc _ => hc)).1, ?_⟩
  obtain ⟨u, hu, hplan, -⟩ := changeBay_review b f s
  rw [hu]
  exact planReview_engine b (by rw [hplan]; exact he)

theorem abortQueued_ending (b : BayId) {s : State} (h : s.Ending) : (abortQueued b s).Ending := by
  rcases abortQueued_cases b s with h' | ⟨-, -, h'⟩
  · rwa [h']
  · rw [h']
    exact changeBay_ending b _ (s := dequeue b s) h

theorem abortStopping_ending (b : BayId) {s : State} (h : s.Ending) : (abortStopping b s).Ending := by
  rcases abortStopping_cases b s with h' | ⟨-, -, h'⟩
  · rwa [h']
  · rw [h']
    exact changeBay_ending b _ h

theorem enterAborting_ending {s : State} (h : s.PlanOk) (he : s.plan.engine = .paused) : (enterAborting s).Ending := by
  obtain ⟨⟨⟨hout, howner, hcur, -⟩, -, hnodup, hlost, hstays, -⟩, -⟩ := planOk_iff.mp h
  refine ⟨Plan.looseOk_between (pl := { s.plan with engine := .aborting, wait := .idle, inProgress := false }) rfl rfl
    ?_ ?_ ?_ nofun hnodup hlost hstays, .inl rfl⟩
  · simpa [he] using hout
  · simpa [he] using howner
  · simpa [he] using hcur

theorem skipRest_eq (s : State) : ∃ v, skipRest s = setPlan { s.plan with steps := v } s := ⟨_, rfl⟩

theorem skipRest_ending {s : State} (h : s.Ending) : (skipRest s).Ending := by
  have hstep := Ending.inProgress h
  obtain ⟨hloose, he⟩ := h
  have hwait := hloose.idle (Plan.awaitsTime_of_not hstep)
  obtain ⟨⟨hout, howner, hcur, hactive, -⟩, -, hnodup, hlost, hstays, -⟩ := hloose
  obtain ⟨v, hv⟩ := skipRest_eq s
  rw [hv]
  exact ⟨Plan.looseOk_between (pl := { s.plan with steps := v }) hstep hwait hout howner hcur hactive hnodup hlost hstays,
    he⟩

theorem finishAbort_planOk {s : State} (h : s.Ending) : (finishAbort s).PlanOk := by
  have hstep := Ending.inProgress h
  obtain ⟨hloose, he⟩ := h
  refine planOk_iff.mpr ⟨finishAbort_looseOk hloose ?_ hstep, nofun⟩
  rcases he with he | he <;> simp [he]

theorem abort_planOk (u : Unit) {s : State} (hs : s.PlanOk) : (abortAct u s).state.PlanOk := by
  unfold abortAct
  split
  · next he =>
    show (abortPlan s).PlanOk
    unfold abortPlan
    have hwithdrawn : (s.plan.pendingSet.foldl (fun acc b => abortQueued b acc) (enterAborting s)).Ending :=
      foldl_keeps (P := State.Ending) (fun t b => abortQueued_ending b) _ (enterAborting_ending hs he)
    have hcleared : (s.plan.pendingSet.foldl (fun acc b => abortStopping b acc)
        (s.plan.pendingSet.foldl (fun acc b => abortQueued b acc) (enterAborting s))).Ending :=
      foldl_keeps (P := State.Ending) (fun t b => abortStopping_ending b) _ hwithdrawn
    have hskipped := skipRest_ending hcleared
    dsimp only
    generalize skipRest (s.plan.pendingSet.foldl (fun acc b => abortStopping b acc)
        (s.plan.pendingSet.foldl (fun acc b => abortQueued b acc) (enterAborting s))) = t at hskipped ⊢
    split
    · next hstart => exact planOk_iff.mpr ⟨hskipped.1, fun _ => hstart⟩
    · exact finishAbort_planOk hskipped
  all_goals exact hs

/-! ### TAKEOVER and RESTART -/

theorem takeover_planOk (p : Port) {s : State} (hs : s.PlanOk) : (takeover p s).PlanOk := by
  unfold takeover
  have ht := (chain_takeClaims (wide := False) (ordered := False) p s).planOk hs
  dsimp only
  generalize (s.ownedBy p.peer).foldl (fun acc b => changeBay b (fun y => { y with owner := some p }) acc) s = t at ht
  refine (chain_setRole (wide := False) (ordered := False) p _).planOk ?_
  split
  · next howned =>
    obtain ⟨⟨⟨hout, howner, hcur, hrest⟩, hrest'⟩, hab⟩ := planOk_iff.mp ht
    have hother : (some p : Option Port).isSome = decide (t.plan.engine ≠ .idle) := by
      rw [← howner, howned]
      rfl
    exact planOk_iff.mpr ⟨⟨⟨hout, hother, hcur, hrest⟩, hrest'⟩, hab⟩
  · exact ht

theorem restart_planOk (s : State) : (restart s).PlanOk :=
  planOk_iff.mpr ⟨Plan.looseOk_between rfl rfl rfl rfl rfl (fun _ => ⟨rfl, rfl⟩) .nil (Nat.zero_le _) nofun, nofun⟩

/-! ### The engine's steps (R128–R131) -/

/-- The plan is in order and RUNNING, with no step in progress. -/
def State.Between (s : State) : Prop := s.PlanOk ∧ s.plan.engine = .running ∧ s.plan.inProgress = false

/-- The review of a bay between steps changes the pending set and the lost count alone. -/
theorem planReview_between (b : BayId) {s : State} (he : s.plan.engine = .running) (hstep : s.plan.inProgress = false) :
    (planReview b s).plan.engine = .running ∧ (planReview b s).plan.inProgress = false := by
  unfold planReview
  split
  · have hengine : (depart b s).plan.engine = .running := by rw [depart_items]; exact he
    have hprogress : (depart b s).plan.inProgress = false := by rw [depart_items]; exact hstep
    have hawaits := Plan.awaitsSettled_of_not hprogress
    dsimp only
    rw [if_neg (by simp [hawaits]), if_neg (by simp [hengine])]
    exact ⟨hengine, hprogress⟩
  · exact ⟨he, hstep⟩

/-- A change of a bay between steps leaves the plan so, where it is in order for every other bay. -/
theorem changeBay_between (b : BayId) (f : Bay → Bay) {s : State} (h : s.plan.LooseOk fun c => c ≠ b → s.Stays c)
    (he : s.plan.engine = .running) (hstep : s.plan.inProgress = false) : (changeBay b f s).Between := by
  obtain ⟨hloose, -⟩ := changeBay_looseOk b f h
  obtain ⟨u, hu, hplan, -⟩ := changeBay_review b f s
  obtain ⟨h1, h2⟩ := planReview_between b (s := u) (by rw [hplan]; exact he) (by rw [hplan]; exact hstep)
  rw [← hu] at h1 h2
  exact ⟨planOk_iff.mpr ⟨hloose, fun hab => absurd (h1.symm.trans hab) (by decide)⟩, h1, h2⟩

theorem Move.between {ordered : Prop} {s t : State} (h : Move False ordered s t) (hs : s.Between) : t.Between := by
  obtain ⟨hok, he, hstep⟩ := hs
  refine ⟨h.planOk id hok, ?_⟩
  rcases h.seenByPlan id with ⟨hp, -⟩ | ⟨b, f, u, hup, hub, htp, -⟩
  · rw [hp]
    exact ⟨he, hstep⟩
  · obtain ⟨hloose, -⟩ := planOk_iff.mp (planOk_same hup hub hok)
    obtain ⟨-, h1, h2⟩ := changeBay_between b f (s := u) (hloose.mono fun _ _ hc _ => hc) (by rw [hup]; exact he)
      (by rw [hup]; exact hstep)
    rw [htp]
    exact ⟨h1, h2⟩

theorem Chain.between {ordered : Prop} {s t : State} (h : Chain False ordered s t) (hs : s.Between) : t.Between :=
  h.keeps (fun _ _ => Move.between) hs

/-- A bay that has joined the pending set is the only one that need not stay pending yet. -/
theorem joinPending_looseOk (b : BayId) {s : State} (h : s.Between) :
    (joinPending b s).plan.LooseOk (fun c => c ≠ b → (joinPending b s).Stays c)
    ∧ (joinPending b s).plan.engine = .running ∧ (joinPending b s).plan.inProgress = false := by
  obtain ⟨hok, he, hstep⟩ := h
  obtain ⟨hloose, -⟩ := planOk_iff.mp hok
  unfold joinPending
  split
  · exact ⟨hloose.mono fun _ _ hc _ => hc, he, hstep⟩
  · next hb =>
    have hwait := hloose.idle (Plan.awaitsTime_of_not hstep)
    obtain ⟨⟨hout, howner, hcur, -⟩, -, hnodup, hlost, hstays, -⟩ := hloose
    refine ⟨Plan.looseOk_between hstep hwait hout howner hcur ?_ ?_ hlost fun c hc hcb => ?_, he, hstep⟩
    · simp [setPlan, he, EngineState.active]
    · exact hnodup.append (List.nodup_singleton b) (by simpa using hb)
    · rcases List.mem_append.mp hc with hc | hc
      · exact hstays c hc
      · exact absurd (List.mem_singleton.mp hc) hcb

theorem joinPending_bay (b c : BayId) (s : State) : (joinPending b s).bay c = s.bay c := by
  unfold joinPending
  split <;> rfl

theorem onStepBay_between (b : BayId) {s : State} (h : s.Between) : (onStepBay b s).1.Between := by
  obtain ⟨hloose, he, hstep⟩ := joinPending_looseOk b h
  cases hc : (s.bay b).onCase with
  | queue =>
    have hjoined : ((joinPending b s).bay b).onCase = .queue := by rw [joinPending_bay, hc]
    rw [onStepBay, hc]
    show (powerOnBay .plan b (joinPending b s)).1.Between
    rw [powerOnBay, hjoined]
    show (joinQueue b .plan (fun y => { y with lastEvent := .queued }) (joinPending b s)).Between
    refine (chain_opportunity (ordered := False) _).between ?_
    exact changeBay_between b _ (s := { joinPending b s with queue := _ }) hloose he hstep
  | requeue =>
    have hjoined : ((joinPending b s).bay b).onCase = .requeue := by rw [joinPending_bay, hc]
    rw [onStepBay, hc]
    show (powerOnBay .plan b (joinPending b s)).1.Between
    rw [powerOnBay, hjoined]
    show (changeBay b (fun y => { y with requeue := true, origin := some .plan }) (joinPending b s)).Between
    exact changeBay_between b _ hloose he hstep
  | noChange =>
    rw [onStepBay, hc]
    show (powerOnBay .plan b s).1.Between
    rw [powerOnBay, hc]
    exact h
  | refuse =>
    rw [onStepBay, hc]
    show (powerOnBay .plan b s).1.Between
    rw [powerOnBay, hc]
    exact h

theorem stepBay_between (act : StepAction) (b : BayId) {s : State} (h : s.Between) : (stepBay act b s).1.Between := by
  unfold stepBay
  split
  · cases act with
    | on => exact onStepBay_between b h
    | off => exact (chain_powerOffBay (ordered := False) b s).between h
    | remove => exact (chain_prepareBay (ordered := False) b s).between h
    | none | waitTime | waitSettled => exact h
  · exact h

theorem takeBays_keeps {P : State → Prop} {act : BayId → State → State × Option Result}
    (keep : ∀ b t, P t → P (act b t).1) : ∀ (bays : List Byte) (s : State), P s → P (takeBays act bays s).1
  | [], _, hs => hs
  | x :: rest, s, hs => by
    unfold takeBays
    dsimp only
    refine takeBays_keeps keep rest _ ?_
    split
    · exact hs
    · next b _ => exact keep b s hs

/-- The items of a running plan with no step in progress. -/
theorem Between.endStep_planOk {s : State} (h : s.Between) (r : StepResult) (n : Nat) : (endStep r n s).PlanOk := by
  obtain ⟨hok, he, hstep⟩ := h
  obtain ⟨hloose, -⟩ := planOk_iff.mp hok
  obtain ⟨hout, howner, hcur⟩ := hloose.running he
  have hwait := hloose.idle (Plan.awaitsTime_of_not hstep)
  obtain ⟨-, -, hnodup, hlost, hstays, -⟩ := hloose
  exact Sys2Proof.Machine.endStep_planOk r n he hout howner hcur hwait hnodup hlost hstays

theorem takeStep_planOk {st : Step} {s : State} (h : s.Between) (hst : s.plan.currentStep = some st) :
    (takeStep st s).PlanOk := by
  have hrun : (runBayStep st s).PlanOk :=
    Between.endStep_planOk (takeBays_keeps (P := State.Between) (fun b t => stepBay_between st.action b) st.bays s h) _ _
  obtain ⟨hok, he, hstep⟩ := id h
  obtain ⟨hloose, -⟩ := planOk_iff.mp hok
  obtain ⟨hout, howner, hcur⟩ := hloose.running he
  have hwait := hloose.idle (Plan.awaitsTime_of_not hstep)
  obtain ⟨⟨hout', howner', hcur', hactive, -⟩, -, hnodup, hlost, hstays, -⟩ := hloose
  unfold takeStep
  split
  · exact hok
  · exact hrun
  · exact hrun
  · exact hrun
  · next hact =>
    have hnow : ∀ w, ({ s.plan with inProgress := true, wait := w } : Plan).currentStep = some st := fun _ => hst
    refine setPlan_planOk ⟨⟨hout', howner', hcur', hactive, fun _ => .inl he, fun _ => .inl ?_⟩, ?_, hnodup, hlost,
      hstays, fun _ h => ?_⟩ ?_
    · rw [hnow, Option.map_some, hact]
    · refine Bool.and_eq_true_iff.mpr ⟨?_, decide_eq_true he⟩
      rw [Plan.awaitsTime, hnow, Option.map_some, hact]
      rfl
    · simp [Plan.awaitsSettled, hnow, hact] at h
    · simp [he]
  · next hact =>
    split
    · exact Sys2Proof.Machine.endStep_planOk _ _ he hout howner hcur hwait .nil (Nat.zero_le _) nofun
    · next hset =>
      have hnow : ({ s.plan with inProgress := true } : Plan).currentStep = some st := hst
      refine setPlan_planOk ⟨⟨hout', howner', hcur', hactive, fun _ => .inl he, fun _ => .inr ?_⟩, ?_, hnodup, hlost,
        hstays, fun _ _ hempty => hset (List.isEmpty_iff.mpr hempty)⟩ ?_
      · rw [hnow, Option.map_some, hact]
      · exact Plan.waitOk_idle hwait (by simp [Plan.awaitsTime, hnow, hact])
      · simp [he]

theorem planStep_planOk {s : State} (hs : s.PlanOk) : (planStep s).PlanOk := by
  unfold planStep
  split
  · next h =>
    simp only [Bool.and_eq_true, decide_eq_true_eq, Bool.not_eq_true'] at h
    split
    · exact hs
    · next st hst => exact takeStep_planOk ⟨hs, h.1, h.2⟩ hst
  · exact hs

theorem waitEnd_planOk {s : State} (hs : s.PlanOk) : (waitEnd s).PlanOk := by
  unfold waitEnd
  split
  · next hrun _ =>
    obtain ⟨hloose, -⟩ := planOk_iff.mp hs
    obtain ⟨hout, howner, hcur⟩ := hloose.running hrun
    obtain ⟨-, -, hnodup, hlost, hstays, -⟩ := hloose
    exact endStep_planOk _ _ (s := setPlan { s.plan with wait := .idle } s) hrun hout howner hcur rfl hnodup hlost hstays
  · exact hs

/-! ### Every step -/

theorem request_planOk {α : Type} {cls : RightsClass} {code : Nat} {p : Port} {tag : Byte} {args : Option α}
    {act : α → State → Answer} (h : ∀ a t, t.PlanOk → (act a t).state.PlanOk) {s : State} (hs : s.PlanOk) :
    (request cls code p tag args act s).PlanOk := by
  have hreply : ∀ a : Answer, a.state.PlanOk → (sendReply p code tag a).PlanOk := fun a ha => by
    rw [sendReply, State.updPort]
    exact planOk_same rfl rfl ha
  have hhear : (hear p s).PlanOk := (chain_hear (wide := False) (ordered := False) p s).planOk hs
  unfold request
  split
  · exact hs
  · dsimp only
    split
    · exact (chain_markOverrun (wide := False) (ordered := False) p _).planOk hhear
    · refine hreply _ ?_
      split
      · exact hhear
      · split
        · exact hhear
        · split
          · exact hhear
          · exact h _ _ hhear

theorem withChain_planOk {act : SlotId → List SlotId → State → Answer}
    (h : ∀ i c t, t.PlanOk → (act i c t).state.PlanOk) (x : Byte) {s : State} (hs : s.PlanOk) :
    (withChain act x s).state.PlanOk := by
  unfold withChain
  split
  · exact hs
  · split
    · exact hs
    · split
      · exact hs
      · exact h _ _ s hs

theorem event_planOk {f : State → State} {s : State} (h : (f s).PlanOk) (hs : s.PlanOk) : (event f s).PlanOk := by
  unfold event
  split
  · exact hs
  · exact h

/-- The commands that write the plan keep it in order. -/
theorem exec_planOk {i : Instr} {s t : State} (hi : writesPlan i = true) (h : exec i s = .next t) (hs : s.PlanOk) :
    t.PlanOk := by
  have done : ∀ u, exec i s = .next u → u.PlanOk → t.PlanOk := fun u hu hok => by
    rw [h] at hu
    rwa [Host.Outcome.next.inj hu]
  cases i with
  | writeStep p tag payload => exact done _ rfl (request_planOk (fun a t => writeStep_planOk a) hs)
  | startPlan p tag payload =>
    refine done _ rfl (request_planOk (fun a t ht => ?_) hs)
    refine withChain_planOk (fun i c u _ => ?_) a ht
    exact startPlan_planOk p i c u
  | pausePlan p tag payload => exact done _ rfl (request_planOk (fun u t => pause_planOk u) hs)
  | resumePlan p tag payload => exact done _ rfl (request_planOk (fun u t => resume_planOk u) hs)
  | abortPlan p tag payload => exact done _ rfl (request_planOk (fun u t => abort_planOk u) hs)
  | takeover p tag payload =>
    refine done _ rfl (request_planOk (fun u t ht => ?_) hs)
    unfold takeoverAct
    split
    · exact ht
    · exact takeover_planOk p ht
  | restart p tag payload =>
    refine done _ rfl (request_planOk (fun u t ht => ?_) hs)
    unfold restartAct
    split
    · exact ht
    · exact restart_planOk t
  | planStep => exact done _ rfl (event_planOk (planStep_planOk hs) hs)
  | waitTimeExpiry => exact done _ rfl (event_planOk (waitEnd_planOk hs) hs)
  | _ => cases hi

theorem WaitTimer.elapse_waitOk {pl : Plan} (h : pl.waitOk) : ({ pl with wait := pl.wait.elapse } : Plan).waitOk := by
  unfold Plan.waitOk at h ⊢
  cases hw : pl.wait <;> rw [hw] at h <;> exact h

theorem elapse_planOk {s : State} (hs : s.PlanOk) : (elapse s).PlanOk := by
  have hplan : (elapse s).plan = if s.resetHeld then s.plan else { s.plan with wait := s.plan.wait.elapse } := by
    unfold elapse
    split <;> rfl
  have hbay : ∀ c, ((elapse s).bay c).state = (s.bay c).state ∧ ((elapse s).bay c).requeue = (s.bay c).requeue
      ∧ ((elapse s).bay c).origin = (s.bay c).origin := fun c => by
    rw [elapse_bay]
    split <;> exact ⟨rfl, rfl, rfl⟩
  split at hplan
  · exact planOk_congr hplan hbay hs
  · obtain ⟨⟨hitems, hwait, hrest⟩, hab⟩ := planOk_iff.mp hs
    have hcount : (setPlan { s.plan with wait := s.plan.wait.elapse } s).PlanOk :=
      planOk_iff.mpr ⟨⟨hitems, WaitTimer.elapse_waitOk hwait, hrest⟩, hab⟩
    exact planOk_congr (s := setPlan { s.plan with wait := s.plan.wait.elapse } s) hplan hbay hcount

theorem held_planOk {s : State} (hs : s.PlanOk) : s.held.PlanOk :=
  planOk_congr (s := s) rfl (fun c => by rw [held_bay]; exact ⟨rfl, rfl, rfl⟩) hs

/-- Settles O59: outside the plan's own commands the plan changes by the review of changed bays, which keeps it in
order, as each of those commands does. -/
theorem planStaysInOrder : Obligations.PlanStaysInOrder := by
  intro s t hs h
  rcases step_cases (ordered := False) h nofun with ⟨-, ht⟩ | ⟨c, rest, -, hexec, ⟨-, ht⟩ | ⟨presence, pg, -, ht⟩ | hchain⟩
  · rw [ht]
    exact elapse_planOk hs
  · rw [ht]
    exact held_planOk (s := { s with pending := rest }) hs
  · rw [ht]
    refine (chain_resetRelease (ordered := False) presence pg _).planOk ?_
    rw [released_only]
    exact planOk_same rfl rfl reset_planOk
  · have hrest : ({ s with pending := rest } : State).PlanOk := hs
    cases hc : writesPlan c with
    | true => exact exec_planOk hc hexec hrest
    | false =>
      refine Chain.planOk (ordered := False) (s := { s with pending := rest }) ?_ hrest
      rw [hc] at hchain
      simpa using hchain

end Sys2Proof.Machine

/-!
PROOF. The step and the receive lines: one millisecond field by field (log 1), the link events of R153–R156 with the
requests no port takes, and the reply frame of R171.
-/

namespace Sys2Proof.Machine

/-! ### One millisecond -/

theorem countDown_eq (t : Option Nat) : countDown t = t.map (· - 1) := by
  cases t <;> rfl

theorem BayTimer.elapse_eq (t : BayTimer) :
    t.elapse = match t with
      | .idle => .idle | .settled => .settled | .settle n => .settle (n - 1)
      | .surge n => .surge (n - 1) | .backoff n => .backoff (n - 1) | .stop n => .stop (n - 1)
      | .removal n => .removal (n - 1) := by
  cases t <;> rfl

theorem LocateTimer.elapse_eq (t : LocateTimer) :
    t.elapse = match t with
      | .running n => .running (n - 1) | .idle => .idle | .indefinite => .indefinite := by
  cases t <;> rfl

theorem WaitTimer.elapse_eq (t : WaitTimer) :
    t.elapse = match t with
      | .running n => .running (n - 1) | .idle => .idle | .frozen n => .frozen n := by
  cases t <;> rfl

theorem port_elapse {s : State} (h : s.resetHeld = false) (p : Port) :
    (elapse s).port p = (s.port p).elapse := by
  simp [elapse, h, State.port]

/-- Settles O1: the front command by the definition of a step, the millisecond by what `elapse` does to each
record. -/
theorem stepTakesTheFrontCommand : Obligations.StepTakesTheFrontCommand := by
  refine ⟨fun c rest s => step_of_pending rfl, fun s hidle => ⟨fun held => ?_, fun running => ?_⟩⟩
  · simp [step_of_idle hidle, elapse, held]
  · refine ⟨elapse s, step_of_idle hidle, fun b => ?_, fun i => ?_, fun z => ?_, fun p => ?_, ?_⟩
    · have hbay : (elapse s).bay b = (s.bay b).elapse := by simp [elapse, running, State.bay]
      simp only [hbay, Bay.elapse, PerPort.map, BayTimer.elapse_eq, LocateTimer.elapse_eq, countDown_eq]
      rfl
    · simp [elapse, running, countDown_eq]
    · simp [elapse, running, State.zone]
    · simp only [port_elapse running, PortState.elapse, LocateTimer.elapse_eq]
      rfl
    · simp only [elapse, running, countDown_eq, WaitTimer.elapse_eq]
      rfl

/-! ### Events of a receive line -/

theorem lineEvent_open {p : Port} {s : State} (hrun : s.resetHeld = false) (hline : (s.port p).inBreak = false)
    (f : State → State) : lineEvent p f s = f s := by
  simp [lineEvent, State.deaf, hrun, hline]

/-- A frame that completes while a request is outstanding sets the overrun flag and restarts the silence (R155). -/
theorem markOverrun_hear (p : Port) (s : State) :
    markOverrun p (hear p s) = { s with
      ports := s.ports.set p { s.port p with
        receiver := .hunting, silenceMs := 0, flags := { (s.port p).flags with overrun := true } } } := by
  simp only [markOverrun, hear, updPort_updPort]
  rfl

/-- Settles O6: each event is one change of its port, by the definitions. -/
theorem linkEvents : Obligations.LinkEvents := by
  intro p s hrun
  refine ⟨fun hline => ⟨fun c hc => ?_, ?_, fun hout => ?_⟩, ?_, ?_, ?_⟩
  · rcases List.mem_pair.mp hc with rfl | rfl
    · exact congrArg Host.Outcome.next (lineEvent_open hrun hline _)
    · exact congrArg Host.Outcome.next (lineEvent_open hrun hline _)
  · exact congrArg Host.Outcome.next (lineEvent_open hrun hline _)
  · refine congrArg Host.Outcome.next ((lineEvent_open hrun hline _).trans ?_)
    rw [if_pos hout, markOverrun_hear]
  · refine congrArg Host.Outcome.next ((event_running hrun).trans ?_)
    simp only [endFrame, updPort_updPort]
    rfl
  · exact congrArg Host.Outcome.next (event_running hrun)
  · exact congrArg Host.Outcome.next (event_running hrun)

/-! ### Requests no port takes -/

theorem request_deaf {α : Type} {p : Port} {s : State} (h : s.deaf p = true) (cls : RightsClass) (code : Nat)
    (tag : Byte) (args : Option α) (act : α → State → Answer) : request cls code p tag args act s = s := by
  simp [request, h]

theorem request_overrun {α : Type} {p : Port} {s : State} (hdeaf : s.deaf p = false)
    (hout : (s.port p).outstanding.isSome) (cls : RightsClass) (code : Nat) (tag : Byte) (args : Option α)
    (act : α → State → Answer) : request cls code p tag args act s = markOverrun p (hear p s) := by
  simp [request, hdeaf, hout]

/-- What a frame on port `p` does to `s` when its request is not acted on: nothing in a deaf line, and the overrun
mark while a request is outstanding. -/
def State.Untaken (s : State) (p : Port) (t : State) : Prop :=
  (s.deaf p = true → t = s)
  ∧ (s.deaf p = false → (s.port p).outstanding.isSome → t = markOverrun p (hear p s))

theorem request_untaken {α : Type} (p : Port) (s : State) (cls : RightsClass) (code : Nat)
    (tag : Byte) (args : Option α) (act : α → State → Answer) : s.Untaken p (request cls code p tag args act s) :=
  ⟨fun h => request_deaf h .., fun h hout => request_overrun h hout ..⟩

theorem badType_untaken (p : Port) (kind tag : Byte) (s : State) : s.Untaken p (badType p kind tag s) :=
  ⟨fun h => by simp [badType, h], fun h hout => by simp [badType, h, hout]⟩

/-- A well-formed request ends in a state, and one that is not taken leaves it as `Untaken` says. -/
theorem exec_untaken {i : Instr} {p : Port} {kind tag : Byte} {pl : List Byte} (hi : i.request = some (p, kind, tag, pl))
    (s : State) : ∃ t, exec i s = .next t ∧ (i.wf = true → s.Untaken p t) ∧ (s.deaf p = true → t = s) := by
  cases i
  case unknownRequestType q k u x =>
    obtain ⟨rfl, rfl, rfl, rfl⟩ : q = p ∧ k = kind ∧ u = tag ∧ x = pl := by simpa [Instr.request] using hi
    by_cases hk : k.toNat ∈ requestCodes
    · exact ⟨s, by simp [exec, execUnknownRequestType, hk], by simp [Instr.wf, namesNoRequest, hk], fun _ => rfl⟩
    · exact ⟨badType q k u s, by simp [exec, execUnknownRequestType, hk], fun _ => badType_untaken q k u s,
        (badType_untaken q k u s).1⟩
  all_goals cases hi
  all_goals exact ⟨_, rfl, fun _ => request_untaken .., (request_untaken ..).1⟩

/-- Settles O7: a request that is not taken does to the state what its wrapper does. -/
theorem untakenRequests : Obligations.UntakenRequests := by
  refine ⟨fun i p kind tag pl s hi hdeaf => ?_, fun i p kind tag pl s hwf hi hrun hline hout => ?_⟩
  · obtain ⟨t, ht, -, hsame⟩ := exec_untaken hi s
    rw [ht, hsame (by simpa [State.deaf] using hdeaf)]
  · obtain ⟨t, ht, huntaken, -⟩ := exec_untaken hi s
    rw [ht, (huntaken hwf).2 (by simp [State.deaf, hrun, hline]) hout, markOverrun_hear]

/-! ### The reply frame -/

theorem byteSum_toNat (bs : List Byte) : (byteSum bs).toNat = (bs.map BitVec.toNat).sum % 256 := by
  induction bs with
  | nil => rfl
  | cons x rest ih =>
    rw [show byteSum (x :: rest) = x + byteSum rest from rfl, BitVec.toNat_add, ih]
    simp [Nat.add_mod]

theorem checkByte_sum (bs : List Byte) : ((bs.map BitVec.toNat).sum + (checkByte bs).toNat) % 256 = 0 := by
  rw [checkByte, BitVec.toNat_neg, byteSum_toNat]
  omega

/-- The TYPE of a reply is its request's with the high bit set (R171). -/
theorem replyKind_toNat (kind : Byte) : (byte kind.toNat ||| 0x80).toNat = kind.toNat % 128 + 128 := by
  revert kind
  decide

/-- A frame whose bytes stand between LENGTH and payload sums with its CHECK to 0 (R171). -/
theorem reply_frame_sum (r : Reply) (h : r.payload.length ≤ 247) :
    ∃ len check : Byte, r.frame = 0xD6 :: len :: r.kind :: r.tag :: byte r.result.code :: (r.payload ++ [check])
      ∧ len.toNat = r.payload.length + 3
      ∧ (len.toNat + r.kind.toNat + r.tag.toNat + r.result.code + (r.payload.map BitVec.toNat).sum
          + check.toNat) % 256 = 0 := by
  have hcode : (byte r.result.code).toNat = r.result.code := by cases r.result <;> rfl
  have hlen : (byte (r.payload.length + 3)).toNat = r.payload.length + 3 := by
    rw [byte, BitVec.toNat_ofNat]
    omega
  have hsum := checkByte_sum (byte (r.payload.length + 3) :: r.kind :: r.tag :: byte r.result.code :: r.payload)
  refine ⟨_, _, rfl, hlen, ?_⟩
  simp only [List.map_cons, List.sum_cons, hcode] at hsum
  omega

/-- Settles O5: the reply as it is outstanding, and its frame. -/
theorem replyFrameForm : Obligations.ReplyFrameForm := by
  intro p kind tag a h
  exact ⟨port_updPort_peer .., _, by rw [sendReply, port_updPort_same], replyKind_toNat kind, rfl, rfl, rfl,
    reply_frame_sum _ h⟩

end Sys2Proof.Machine

/-!
PROOF. The receiver: a frame is read as the request it spells (11.1, 11.2), and byte by byte the receiver delivers
what the whole run of bytes delivers (R153, R154).
-/

namespace Sys2Proof.Machine

/-! ### A run of bytes -/

/-- The command of a complete frame: the request it names, or a check error (R153). -/
def frameCommand (p : Port) (len kind tag check : Byte) (pl : List Byte) : Instr :=
  if byteSum (len :: kind :: tag :: (pl ++ [check])) = 0 then requestOf p kind tag pl else .checkError p

theorem receive_skip {x : Byte} (h : x ≠ requestSync) (rest : List Byte) (p : Port) :
    receive p (x :: rest) = receive p rest := by
  simp [receive, h]

theorem receive_junk {p : Port} {junk : List Byte} (h : requestSync ∉ junk) (rest : List Byte) :
    receive p (junk ++ rest) = receive p rest := by
  induction junk with
  | nil => rfl
  | cons x junk ih =>
    obtain ⟨hx, hjunk⟩ := List.ne_and_not_mem_of_not_mem_cons h
    rw [List.cons_append, receive_skip (Ne.symm hx), ih hjunk]

theorem receive_badLength {len : Byte} (h : len.toNat < 2 ∨ 250 < len.toNat) (p : Port) (rest : List Byte) :
    receive p (requestSync :: len :: rest) = some (.lengthOutOfRange p, rest) := by
  simp only [receive, if_true, if_pos h]

theorem receive_complete {len : Byte} {pl : List Byte} (hlen : len.toNat = pl.length + 2) (hfit : pl.length ≤ 248)
    (p : Port) (kind tag check : Byte) (rest : List Byte) :
    receive p (requestSync :: len :: kind :: tag :: (pl ++ check :: rest))
      = some (frameCommand p len kind tag check pl, rest) := by
  have hrange : ¬(len.toNat < 2 ∨ 250 < len.toNat) := by omega
  simp only [receive, if_true, if_neg hrange]
  simp only [hlen, List.take_succ_cons, List.drop_succ_cons, List.take_left, List.drop_left, frameCommand]
  split <;> rfl

theorem receive_incomplete {len : Byte} {part : List Byte} (hlo : 2 ≤ len.toNat) (hhi : len.toNat ≤ 250)
    (hpart : part.length ≤ len.toNat) (p : Port) : receive p (requestSync :: len :: part) = none := by
  have hrange : ¬(len.toNat < 2 ∨ 250 < len.toNat) := by omega
  simp only [receive, if_true, if_neg hrange, List.drop_eq_nil_of_le hpart]
  split
  · next h => cases h
  · rfl

/-- A body longer than its LENGTH counts is TYPE, TAG, payload, CHECK and what follows (11.1). -/
theorem body_eq {n : Nat} {body : List Byte} (hlo : 2 ≤ n) (hlong : n < body.length) :
    ∃ kind tag check, ∃ pl rest : List Byte, body = kind :: tag :: (pl ++ check :: rest) ∧ n = pl.length + 2 := by
  obtain ⟨kind, tag, tail, rfl⟩ : ∃ kind tag tail, body = kind :: tag :: tail := by
    match body, hlong with
    | kind :: tag :: tail, _ => exact ⟨kind, tag, tail, rfl⟩
    | [_], h => simp only [List.length_cons, List.length_nil] at h; omega
  simp only [List.length_cons] at hlong
  have hdrop : tail.drop (n - 2) ≠ [] := by
    rw [ne_eq, List.drop_eq_nil_iff]
    omega
  obtain ⟨check, rest, hrest⟩ := List.exists_cons_of_ne_nil hdrop
  refine ⟨kind, tag, check, tail.take (n - 2), rest, ?_, ?_⟩
  · rw [← hrest, List.take_append_drop]
  · rw [List.length_take]
    omega

/-! ### The frame of a request -/

theorem byteSum_check (bs : List Byte) : byteSum (bs ++ [checkByte bs]) = 0 := by
  apply BitVec.eq_of_toNat_eq
  rw [byteSum_toNat]
  simpa using checkByte_sum bs

theorem requestOf_of_wf {i : Instr} (hwf : i.wf = true) {p : Port} {kind tag : Byte} {pl : List Byte}
    (hi : i.request = some (p, kind, tag, pl)) : requestOf p kind tag pl = i := by
  cases i
  case unknownRequestType => cases hi; exact Laws.requestOf_unknown (by simp_all [Instr.wf]) ..
  all_goals cases hi
  all_goals rfl

theorem fits_of_wf {i : Instr} (hwf : i.wf = true) {p : Port} {kind tag : Byte} {pl : List Byte}
    (hi : i.request = some (p, kind, tag, pl)) : pl.length ≤ 248 := by
  cases i
  case unknownRequestType => cases hi; simp_all [Instr.wf, payloadFits]
  all_goals simpa [Instr.wf, hi, payloadFits] using hwf

/-- Settles O3: the frame is complete and its CHECK agrees. -/
theorem frameDecodesToItsRequest : Obligations.FrameDecodesToItsRequest := by
  intro i p bs rest hwf hframe
  obtain ⟨⟨q, kind, tag, pl⟩, hi, hbs⟩ := Option.map_eq_some_iff.mp hframe
  obtain ⟨rfl, rfl⟩ := Prod.mk.inj hbs
  have hfit := fits_of_wf hwf hi
  have hlen : (BitVec.ofNat 8 (pl.length + 2)).toNat = pl.length + 2 := by
    rw [BitVec.toNat_ofNat]
    omega
  have hframe : frameOf kind tag pl ++ rest = requestSync :: BitVec.ofNat 8 (pl.length + 2) :: kind :: tag ::
      (pl ++ checkByte (BitVec.ofNat 8 (pl.length + 2) :: kind :: tag :: pl) :: rest) := by
    simp [frameOf]
  have hsum := byteSum_check (BitVec.ofNat 8 (pl.length + 2) :: kind :: tag :: pl)
  rw [hframe, receive_complete hlen hfit, frameCommand, if_pos (by simpa using hsum), requestOf_of_wf hwf hi]

/-! ### Byte by byte -/

theorem take_collects {len : Byte} {got : List Byte} (h : got.length < len.toNat) (p : Port)
    (x : Byte) : (Receiver.collecting (len :: got)).take p x = (.collecting (len :: (got ++ [x])), none) := by
  match got, h with
  | [], _ => rfl
  | [_], _ => rfl
  | kind :: tag :: pl, h => simp only [Receiver.take, if_neg (Nat.not_le.mpr h), List.cons_append]

theorem take_completes {len : Byte} {pl : List Byte} (hlen : len.toNat = pl.length + 2) (p : Port)
    (kind tag check : Byte) : (Receiver.collecting (len :: kind :: tag :: pl)).take p check
      = (.hunting, some (frameCommand p len kind tag check pl)) := by
  simp [Receiver.take, hlen, frameCommand]

/-- The state in which port `p` has come to receiver `r` and the commands `is` have joined the waiting ones. -/
def State.heard (s : State) (p : Port) (r : Receiver) (is : List Instr) : State :=
  { s.updPort p fun y => { y with receiver := r } with pending := s.pending ++ is }

theorem set_get_self {α : Type} (v : PerPort α) (p : Port) : v.set p (v.get p) = v := by
  cases p <;> rfl

theorem set_set {α : Type} (v : PerPort α) (p : Port) (x y : α) : (v.set p x).set p y = v.set p y := by
  cases p <;> rfl

theorem updPort_self {s : State} {p : Port} {f : PortState → PortState} (h : f (s.port p) = s.port p) :
    s.updPort p f = s := by
  rw [State.updPort, h, State.port, set_get_self]

theorem heard_hunting {s : State} {p : Port} (h : (s.port p).receiver = .hunting) (is : List Instr) :
    s.heard p .hunting is = { s with pending := s.pending ++ is } := by
  rw [State.heard, updPort_self (by rw [← h])]

theorem receiveByte_deaf {p : Port} {s : State} (h : s.deaf p = true) (x : Byte) : receiveByte p x s = s := by
  simp [receiveByte, h]

theorem receiveByte_heard {p : Port} {s : State} (h : s.deaf p = false) (x : Byte) (r : Receiver)
    (is : List Instr) : receiveByte p x (s.heard p r is)
      = s.heard p (r.take p x).1 (is ++ (r.take p x).2.toList) := by
  have hport : (s.heard p r is).port p = { s.port p with receiver := r } := get_set_same ..
  have hdeaf : (s.heard p r is).deaf p = false := by
    rw [State.deaf, hport]
    exact h
  simp only [receiveByte, hdeaf, Bool.false_eq_true, if_false, hport]
  simp only [State.heard, State.updPort, State.port, get_set_same, set_set, List.append_assoc]

/-- Bytes that reach port `p`, one after another. -/
def receiveBytes (p : Port) (bs : List Byte) (s : State) : State := bs.foldl (fun u x => receiveByte p x u) s

theorem receiveBytes_cons (p : Port) (x : Byte) (bs : List Byte) (s : State) :
    receiveBytes p (x :: bs) s = receiveBytes p bs (receiveByte p x s) := rfl

theorem receiveBytes_append (p : Port) (bs cs : List Byte) (s : State) :
    receiveBytes p (bs ++ cs) s = receiveBytes p cs (receiveBytes p bs s) :=
  List.foldl_append

theorem receiveBytes_collect {p : Port} {s : State} (h : s.deaf p = false) {len : Byte}
    {got part : List Byte} (hpart : got.length + part.length ≤ len.toNat) :
    receiveBytes p part (s.heard p (.collecting (len :: got)) [])
      = s.heard p (.collecting (len :: (got ++ part))) [] := by
  induction part generalizing got with
  | nil => simp [receiveBytes]
  | cons x part ih =>
    simp only [List.length_cons] at hpart
    rw [receiveBytes_cons, receiveByte_heard h, take_collects (by omega)]
    have := ih (got := got ++ [x]) (by simp only [List.length_append, List.length_singleton]; omega)
    simpa using this

/-- The bytes of a complete frame deliver its command at the last of them (R153). -/
theorem receiveBytes_frame {p : Port} {s : State} (h : s.deaf p = false) {len : Byte} {pl : List Byte}
    (hlen : len.toNat = pl.length + 2) (hfit : pl.length ≤ 248) (kind tag check : Byte) :
    receiveBytes p (requestSync :: len :: kind :: tag :: (pl ++ [check])) (s.heard p .hunting [])
      = s.heard p .hunting [frameCommand p len kind tag check pl] := by
  have hrange : ¬(len.toNat < 2 ∨ 250 < len.toNat) := by omega
  rw [receiveBytes_cons, receiveByte_heard h, receiveBytes_cons]
  simp only [Receiver.take, if_true, Option.toList_none, List.append_nil]
  rw [receiveByte_heard h]
  simp only [Receiver.take, if_neg hrange, Option.toList_none, List.append_nil]
  rw [show kind :: tag :: (pl ++ [check]) = (kind :: tag :: pl) ++ [check] from rfl, receiveBytes_append,
    receiveBytes_collect h (by simp [hlen]), receiveBytes_cons, receiveByte_heard h,
    List.nil_append, take_completes hlen]
  rfl

/-- What the bytes of a run do to a hunting receiver, beside what the run delivers. -/
theorem receiveBytes_hunting {p : Port} {s : State} (h : s.deaf p = false) (bs : List Byte) :
    (receive p bs = none → ∃ r, receiveBytes p bs (s.heard p .hunting []) = s.heard p r [])
    ∧ ∀ i rest, receive p bs = some (i, rest) →
        ∃ run, bs = run ++ rest ∧ receiveBytes p run (s.heard p .hunting []) = s.heard p .hunting [i] := by
  induction bs with
  | nil => exact ⟨fun _ => ⟨_, rfl⟩, fun i rest hr => by simp [receive] at hr⟩
  | cons x bs ih =>
    by_cases hx : x = requestSync
    · subst hx
      have hsync : receiveByte p requestSync (s.heard p .hunting []) = s.heard p (.collecting []) [] := by
        simp [receiveByte_heard h, Receiver.take]
      match bs with
      | [] => exact ⟨fun _ => ⟨_, hsync⟩, fun i rest hr => by simp [receive] at hr⟩
      | len :: body =>
        by_cases hrange : len.toNat < 2 ∨ 250 < len.toNat
        · rw [receive_badLength hrange]
          refine ⟨by simp, fun i rest hr => ⟨[requestSync, len], ?_, ?_⟩⟩
          · simp_all
          · obtain ⟨rfl, -⟩ : Instr.lengthOutOfRange p = i ∧ body = rest := by simpa using hr
            rw [receiveBytes_cons, hsync, receiveBytes_cons, receiveByte_heard h]
            simp only [Receiver.take, if_pos hrange]
            rfl
        · have hlo : 2 ≤ len.toNat := by omega
          have hlen : receiveByte p len (s.heard p (.collecting []) []) = s.heard p (.collecting [len]) [] := by
            rw [receiveByte_heard h]
            simp only [Receiver.take, if_neg hrange]
            rfl
          by_cases hlong : len.toNat < body.length
          · obtain ⟨kind, tag, check, pl, after, rfl, hn⟩ := body_eq hlo hlong
            rw [receive_complete hn (by omega)]
            refine ⟨by simp, fun i rest hr => ⟨requestSync :: len :: kind :: tag :: (pl ++ [check]), ?_, ?_⟩⟩
            · simp_all
            · obtain ⟨rfl, -⟩ := Prod.mk.inj (Option.some.inj hr)
              exact receiveBytes_frame h hn (by omega) kind tag check
          · rw [receive_incomplete hlo (by omega) (by omega)]
            refine ⟨fun _ => ⟨.collecting (len :: ([] ++ body)), ?_⟩, by simp⟩
            rw [receiveBytes_cons, hsync, receiveBytes_cons, hlen]
            exact receiveBytes_collect h (by simpa using by omega)
    · have hskip : receiveByte p x (s.heard p .hunting []) = s.heard p .hunting [] := by
        simp [receiveByte_heard h, Receiver.take, hx]
      have hreceive : receive p (x :: bs) = receive p bs := by exact receive_skip hx bs p
      rw [hreceive, receiveBytes_cons, hskip]
      refine ⟨ih.1, fun i rest hr => ?_⟩
      obtain ⟨run, rfl, hrun⟩ := ih.2 i rest hr
      exact ⟨x :: run, rfl, by rw [receiveBytes_cons, hskip, hrun]⟩

/-- Settles O4: the discards of a run, and the same byte by byte. -/
theorem receiverDiscards : Obligations.ReceiverDiscards := by
  refine ⟨fun p rest => ⟨fun junk h => receive_junk h rest, fun len h => receive_badLength h p rest,
    fun kind tag check pl hfit hsum => ?_, fun len part hlo hhi hpart => receive_incomplete hlo hhi hpart p⟩,
    fun p bs s => ⟨fun hdeaf x => receiveByte_deaf (by simpa [State.deaf] using hdeaf) x,
      fun hrun hline hhunt => ?_⟩⟩
  · have hlen : (byte (pl.length + 2)).toNat = pl.length + 2 := by
      rw [byte, BitVec.toNat_ofNat]
      omega
    refine (receive_complete hlen hfit p kind tag check rest).trans ?_
    have hbad : byteSum (byte (pl.length + 2) :: kind :: tag :: (pl ++ [check])) ≠ 0 := by
      intro h0
      have h0 := congrArg BitVec.toNat h0
      rw [byteSum_toNat] at h0
      simp only [List.map_cons, List.map_append, List.map_nil, List.sum_cons, List.sum_append, List.sum_nil,
        hlen] at h0
      exact hsum (by simpa [Nat.add_assoc] using h0)
    rw [frameCommand, if_neg hbad]
  · have hdeaf : s.deaf p = false := by simp [State.deaf, hrun, hline]
    have hstart : s.heard p .hunting [] = s := by simp [heard_hunting hhunt]
    obtain ⟨hnone, hsome⟩ := receiveBytes_hunting hdeaf bs
    rw [hstart] at hnone
    refine ⟨fun h => ?_, fun i rest h => ?_⟩
    · obtain ⟨r, hr⟩ := hnone h
      exact (congrArg State.pending hr).trans (List.append_nil _)
    · obtain ⟨run, hbs, hrun⟩ := hsome i rest h
      rw [hstart, heard_hunting hhunt] at hrun
      exact ⟨run, hbs, hrun⟩

end Sys2Proof.Machine

/-!
PROOF. The judgement of a request (R157): the reader of a payload answers exactly where the length table of 11.2
and the presence mask pass, and every request of 11.2 reaches its wrapper with its reader.
-/

namespace Sys2Proof.Machine

/-! ### Presence masks -/

theorem mod_two_pow_ne_zero (m n : Nat) : m % 2 ^ n ≠ 0 ↔ ∃ i < n, m.testBit i := by
  refine ⟨fun h => ?_, fun ⟨i, hi, hbit⟩ h0 => ?_⟩
  · by_contra hnone
    push Not at hnone
    refine h (Nat.eq_of_testBit_eq fun i => ?_)
    rw [Nat.testBit_mod_two_pow, Nat.zero_testBit]
    by_cases hi : i < n
    · simp [hnone i hi]
    · simp [hi]
  · have := Nat.testBit_mod_two_pow m n i
    simp_all

theorem anyPresent_eq (m n : Nat) : anyPresent m n = (List.range n).any m.testBit := by
  rw [Bool.eq_iff_iff]
  simp only [anyPresent, bne_iff_ne, mod_two_pow_ne_zero, List.any_eq_true, List.mem_range]

theorem isSome_ite {α : Type} (c : Bool) (x : α) : (if c = true then some x else none).isSome = c := by
  cases c <;> rfl

/-! ### Payloads of one length -/

/-- A payload of a length the table does not give is not read. -/
theorem isSome_of_length {α : Type} {n : Nat} {read : List Byte → Option α} {c : List Byte → Bool}
    (hother : ∀ pl, pl.length ≠ n → read pl = none) (hread : ∀ pl, pl.length = n → (read pl).isSome = c pl)
    (pl : List Byte) : (read pl).isSome = (decide (pl.length = n) && c pl) := by
  by_cases h : pl.length = n
  · simp [h, hread pl h]
  · simp [h, hother pl h]

theorem readNothing_isSome (pl : List Byte) : (readNothing pl).isSome = decide (pl.length = 0) := by
  cases pl <;> simp [readNothing]

theorem readOne_isSome (pl : List Byte) : (readOne pl).isSome = decide (pl.length = 1) := by
  unfold readOne
  split <;> simp_all [List.length_eq_one_iff]

theorem readTwo_isSome (pl : List Byte) : (readTwo pl).isSome = decide (pl.length = 2) := by
  unfold readTwo
  split <;> simp_all [List.length_eq_two]

theorem readThree_isSome (pl : List Byte) : (readThree pl).isSome = decide (pl.length = 3) := by
  unfold readThree
  split <;> simp_all [List.length_eq_three]

theorem readSetProfile_isSome (pl : List Byte) : (readSetProfile pl).isSome = decide (pl.length = 11) := by
  refine (isSome_of_length (c := fun _ => true) (fun pl h => ?_) (fun pl h => ?_) pl).trans (Bool.and_true _)
  · unfold readSetProfile
    split <;> simp_all
  · match pl, h with
    | [_, _, _, _, _, _, _, _, _, _, _], _ => rfl

theorem readPortSettings_isSome (pl : List Byte) :
    (readPortSettings pl).isSome = (decide (pl.length = 3) && marksOne 0x26 pl) := by
  refine isSome_of_length (fun pl h => ?_) (fun pl h => ?_) pl
  · unfold readPortSettings
    split <;> simp_all
  · match pl, h with
    | [_, _, _], _ => exact (isSome_ite _ _).trans (anyPresent_eq ..)

theorem readSetZone_isSome (pl : List Byte) :
    (readSetZone pl).isSome = (decide (pl.length = 16) && marksOne 0x41 pl) := by
  refine isSome_of_length (fun pl h => ?_) (fun pl h => ?_) pl
  · unfold readSetZone
    split <;> simp_all
  · match pl, h with
    | [_, _, _, _, _, _, _, _, _, _, _, _, _, _, _, _], _ => exact (isSome_ite _ _).trans (anyPresent_eq ..)

theorem readSensorMap_isSome (pl : List Byte) :
    (readSensorMap pl).isSome = (decide (pl.length = 12) && marksOne 0x43 pl) := by
  refine isSome_of_length (fun pl h => ?_) (fun pl h => ?_) pl
  · unfold readSensorMap
    split <;> simp_all
  · match pl, h with
    | [_, _, _, _, _, _, _, _, _, _, _, _], _ => exact (isSome_ite _ _).trans (anyPresent_eq ..)

theorem readSetScheduler_isSome (pl : List Byte) :
    (readSetScheduler pl).isSome = (decide (pl.length = 9) && marksOne 0x51 pl) := by
  refine isSome_of_length (fun pl h => ?_) (fun pl h => ?_) pl
  · unfold readSetScheduler
    split <;> simp_all
  · match pl, h with
    | [_, _, _, _, _, _, _, _, _], _ => exact (isSome_ite _ _).trans (anyPresent_eq ..)

theorem readSetSupply_isSome (pl : List Byte) :
    (readSetSupply pl).isSome = (decide (pl.length = 5) && marksOne 0x52 pl) := by
  refine isSome_of_length (fun pl h => ?_) (fun pl h => ?_) pl
  · unfold readSetSupply
    split <;> simp_all
  · match pl, h with
    | [_, _, _, _, _], _ => exact (isSome_ite _ _).trans (anyPresent_eq ..)

theorem readSetBudget_isSome (pl : List Byte) :
    (readSetBudget pl).isSome = (decide (pl.length = 6) && marksOne 0x53 pl) := by
  refine isSome_of_length (fun pl h => ?_) (fun pl h => ?_) pl
  · unfold readSetBudget
    split <;> simp_all
  · match pl, h with
    | [_, _, _, _, _, _], _ => exact (isSome_ite _ _).trans (anyPresent_eq ..)

theorem readSetRemoval_isSome (pl : List Byte) :
    (readSetRemoval pl).isSome = (decide (pl.length = 5) && marksOne 0x54 pl) := by
  refine isSome_of_length (fun pl h => ?_) (fun pl h => ?_) pl
  · unfold readSetRemoval
    split <;> simp_all
  · match pl, h with
    | [_, _, _, _, _], _ => exact (isSome_ite _ _).trans (anyPresent_eq ..)

/-! ### Payloads that state a count -/

/-- A bay list with `k` bytes after it suits its length (R172). -/
def baysSuit (k : Nat) (pl : List Byte) : Bool :=
  1 ≤ at8 pl 0 && at8 pl 0 ≤ 16 && decide (pl.length = 1 + at8 pl 0 + k)

theorem readBays_cases (k : Nat) (pl : List Byte) :
    (baysSuit k pl = false ∧ readBays k pl = none)
    ∨ (baysSuit k pl = true ∧ ∃ c bays after, pl = c :: (bays ++ after) ∧ c.toNat = bays.length
        ∧ after.length = k ∧ readBays k pl = some (bays, after)) := by
  cases pl with
  | nil => exact .inl ⟨rfl, rfl⟩
  | cons c rest =>
    have hc : at8 (c :: rest) 0 = c.toNat := rfl
    by_cases h : 1 ≤ c.toNat ∧ c.toNat ≤ 16 ∧ rest.length = c.toNat + k
    · refine .inr ⟨?_, c, rest.take c.toNat, rest.drop c.toNat, ?_, ?_, ?_, if_pos h⟩
      · simp only [baysSuit, hc, List.length_cons, Bool.and_eq_true, decide_eq_true_eq]
        omega
      · rw [List.take_append_drop]
      · rw [List.length_take]
        omega
      · rw [List.length_drop]
        omega
    · refine .inl ⟨?_, if_neg h⟩
      simp only [baysSuit, hc, List.length_cons, Bool.and_eq_false_iff, decide_eq_false_iff_not]
      omega

theorem readBayList_isSome (pl : List Byte) : (readBayList pl).isSome = baysSuit 0 pl := by
  rcases readBays_cases 0 pl with ⟨h, hr⟩ | ⟨h, _, _, _, -, -, -, hr⟩ <;> simp [readBayList, h, hr]

theorem readSetIndication_isSome (pl : List Byte) : (readSetIndication pl).isSome = baysSuit 3 pl := by
  rcases readBays_cases 3 pl with ⟨h, hr⟩ | ⟨h, _, _, after, -, -, hafter, hr⟩
  · simp [readSetIndication, h, hr]
  · obtain ⟨x, y, z, rfl⟩ := List.length_eq_three.mp hafter
    simp [readSetIndication, h, hr]

theorem readClearIndication_isSome (pl : List Byte) : (readClearIndication pl).isSome = baysSuit 1 pl := by
  rcases readBays_cases 1 pl with ⟨h, hr⟩ | ⟨h, _, _, after, -, -, hafter, hr⟩
  · simp [readClearIndication, h, hr]
  · obtain ⟨x, rfl⟩ := List.length_eq_one_iff.mp hafter
    simp [readClearIndication, h, hr]

theorem readSetBay_isSome (pl : List Byte) : (readSetBay pl).isSome = (baysSuit 6 pl && marksOne 0x16 pl) := by
  rcases readBays_cases 6 pl with ⟨h, hr⟩ | ⟨h, c, bays, after, rfl, hc, hafter, hr⟩
  · simp [readSetBay, h, hr]
  · match after, hafter with
    | [m, pr, z, l, sh, be], _ =>
      have hmask : at8 (c :: (bays ++ [m, pr, z, l, sh, be])) (c.toNat + 1) = m.toNat := by
        simp [at8, hc]
      have hmarks : marksOne 0x16 (c :: (bays ++ [m, pr, z, l, sh, be])) = anyPresent m.toNat 5 := by
        rw [anyPresent_eq, ← hmask]
        rfl
      rw [h, hmarks, readSetBay, hr]
      exact isSome_ite _ _

theorem readNoteBytes_isSome (pl : List Byte) :
    (readNoteBytes pl).isSome = (decide (1 ≤ pl.length) && decide (pl.length ≤ 16)) := by
  rw [readNoteBytes]
  split <;> simp_all

/-- Pairs are read exactly from an even number of bytes. -/
theorem readPairs_isSome (pl : List Byte) : (readPairs pl).isSome = decide (pl.length % 2 = 0) := by
  induction pl using readPairs.induct with
  | case1 => rfl
  | case2 x y rest ih =>
    simp [readPairs, ih]
    omega
  | case3 pl hnil hpair =>
    match pl, hnil, hpair with
    | [_], _, _ => rfl
    | x :: y :: rest, _, h => exact (h x y rest rfl).elim

theorem readPairs_isSome_of_length {pl : List Byte} {n : Nat} (h : pl.length = 2 * n) :
    (readPairs pl).isSome = true := by
  simp [readPairs_isSome, h]

theorem readReport_isSome (pl : List Byte) :
    (readReport pl).isSome
      = (decide (1 ≤ at8 pl 0) && decide (at8 pl 0 ≤ 30) && decide (pl.length = 1 + 2 * at8 pl 0)) := by
  cases pl with
  | nil => rfl
  | cons c rest =>
    have hc : at8 (c :: rest) 0 = c.toNat := rfl
    simp only [readReport, hc, List.length_cons]
    split
    · next h =>
      obtain ⟨hlo, hhi, hlen⟩ := h
      simp [readPairs_isSome_of_length hlen, hlo, hhi, hlen, Nat.add_comm]
    · next h =>
      symm
      simp only [Option.isSome_none, Bool.and_eq_false_iff, decide_eq_false_iff_not]
      omega

theorem readSetCurve_isSome (pl : List Byte) :
    (readSetCurve pl).isSome = (decide (2 ≤ pl.length) && decide (pl.length = 2 + 2 * at8 pl 1)) := by
  match pl with
  | [] => rfl
  | [_] => rfl
  | z :: c :: rest =>
    have hc : at8 (z :: c :: rest) 1 = c.toNat := rfl
    simp only [readSetCurve, hc, List.length_cons]
    split
    · next h =>
      simp [readPairs_isSome_of_length h, h]
      omega
    · next h =>
      symm
      simp only [Option.isSome_none, Bool.and_eq_false_iff, decide_eq_false_iff_not]
      omega

theorem readWriteStep_isSome (pl : List Byte) :
    (readWriteStep pl).isSome = (decide (7 ≤ pl.length) && decide (pl.length = 7 + at8 pl 6)) := by
  unfold readWriteStep
  split
  · next sl ac fl nx w0 w1 c rest =>
    have hc : at8 (sl :: ac :: fl :: nx :: w0 :: w1 :: c :: rest) 6 = c.toNat := rfl
    simp only [hc, List.length_cons]
    split
    · next h =>
      simp [h]
      omega
    · next h =>
      symm
      simp only [Option.isSome_none, Bool.and_eq_false_iff, decide_eq_false_iff_not]
      omega
  · next hshort =>
    have : ¬ 7 ≤ pl.length := by
      intro hlen
      match pl, hlen with
      | sl :: ac :: fl :: nx :: w0 :: w1 :: c :: rest, _ => exact hshort _ _ _ _ _ _ _ _ rfl
    simp [this]

/-! ### The table of 11.2 -/

theorem passesLength_fixed {code k : Nat} {pl : List Byte} (h : fixedLength code = some k) :
    passesLength code pl = (decide (pl.length = k) && marksOne code pl) := by
  simp [passesLength, lengthSuits, h]

theorem passesLength_plain {code k : Nat} {pl : List Byte} (h : fixedLength code = some k)
    (hm : maskOf code pl = none) : passesLength code pl = decide (pl.length = k) := by
  simp [passesLength_fixed h, marksOne, hm]

theorem passesLength_bays {code k : Nat} {pl : List Byte} (h : fixedLength code = none)
    (hk : afterBays code = some k) : passesLength code pl = (baysSuit k pl && marksOne code pl) := by
  simp only [passesLength, lengthSuits, h, hk, baysSuit]

theorem passesLength_plainBays {code k : Nat} {pl : List Byte} (h : fixedLength code = none)
    (hk : afterBays code = some k) (hm : maskOf code pl = none) : passesLength code pl = baysSuit k pl := by
  simp [passesLength_bays h hk, marksOne, hm]

/-- Command `i` is the request of TYPE `kind` on port `p`, judged as R157 and 8.2 class it: its reader answers
exactly where the length passes, only IDENTIFY and STATUS are answered in LOADING, and a TYPE reserved to the
CONTROLLING port has that class. -/
def RequestJudged (i : Instr) (p : Port) (kind tag : Byte) (pl : List Byte) : Prop :=
  ∃ (α : Type) (cls : RightsClass) (args : Option α) (act : α → State → Answer),
    (∀ s, exec i s = .next (request cls kind.toNat p tag args act s))
    ∧ args.isSome = passesLength kind.toNat pl
    ∧ (cls = .always → kind.toNat = 0x01 ∨ kind.toNat = 0x02)
    ∧ (kind.toNat ∈ controllingCodes → cls = .controlling)

theorem requestOf_known (p : Port) (tag : Byte) (pl : List Byte) :
    (requestCodes.all fun n => (queryOf p tag pl n).isSome || (bayRequestOf p tag pl n).isSome
      || (settingRequestOf p tag pl n).isSome) = true := by
  rfl

theorem queryOf_ne (p : Port) (kind tag : Byte) (pl : List Byte) (n : Nat) :
    queryOf p tag pl n ≠ some (.unknownRequestType p kind tag pl) := by
  unfold queryOf
  split <;> simp

theorem bayRequestOf_ne (p : Port) (kind tag : Byte) (pl : List Byte) (n : Nat) :
    bayRequestOf p tag pl n ≠ some (.unknownRequestType p kind tag pl) := by
  unfold bayRequestOf
  split <;> simp

theorem settingRequestOf_ne (p : Port) (kind tag : Byte) (pl : List Byte) (n : Nat) :
    settingRequestOf p tag pl n ≠ some (.unknownRequestType p kind tag pl) := by
  unfold settingRequestOf
  split <;> simp

/-- A TYPE of 11.2 is not unknown. -/
theorem requestOf_ne_unknown {kind : Byte} (hk : kind.toNat ∈ requestCodes) (p : Port) (tag : Byte)
    (pl : List Byte) : requestOf p kind tag pl ≠ .unknownRequestType p kind tag pl := by
  have hknown := List.all_eq_true.mp (requestOf_known p tag pl) _ hk
  unfold requestOf
  split
  · next i hi => exact fun h => queryOf_ne p kind tag pl _ (h ▸ hi)
  · split
    · next i hi => exact fun h => bayRequestOf_ne p kind tag pl _ (h ▸ hi)
    · split
      · next i hi => exact fun h => settingRequestOf_ne p kind tag pl _ (h ▸ hi)
      · simp_all

theorem exec_judged {i : Instr} {p : Port} {kind tag : Byte} {pl : List Byte}
    (hi : i.request = some (p, kind, tag, pl)) (hk : kind.toNat ∈ requestCodes)
    (hr : requestOf p kind tag pl = i) : RequestJudged i p kind tag pl := by
  cases i
  case unknownRequestType =>
    cases hi
    exact (requestOf_ne_unknown hk p tag pl hr).elim
  all_goals cases hi
  case identify | status | readChanges | ledgerQuery | handover | takeover | readNote | lightTest | pausePlan
      | resumePlan | abortPlan | saveSettings | restart =>
    exact ⟨_, _, _, _, fun _ => rfl, (readNothing_isSome _).trans (passesLength_plain rfl rfl).symm, by decide,
      by decide⟩
  case queueQuery | zoneQuery | removalQuery | readProfile | startPlan | checkPlan =>
    exact ⟨_, _, _, _, fun _ => rfl, (readOne_isSome _).trans (passesLength_plain rfl rfl).symm, by decide,
      by decide⟩
  case lightQuery | readStep =>
    exact ⟨_, _, _, _, fun _ => rfl, (readTwo_isSome _).trans (passesLength_plain rfl rfl).symm, by decide,
      by decide⟩
  case bayQuery | enclosureLocate =>
    exact ⟨_, _, _, _, fun _ => rfl, (readThree_isSome _).trans (passesLength_plain rfl rfl).symm, by decide,
      by decide⟩
  case powerOn | powerOff | prepareRemoval | cancelRemoval | clearFault | declineAttention | claim | release =>
    exact ⟨_, _, _, _, fun _ => rfl, (readBayList_isSome _).trans (passesLength_plainBays rfl rfl rfl).symm,
      by decide, by decide⟩
  case setBay =>
    exact ⟨_, _, _, _, fun _ => rfl, (readSetBay_isSome _).trans (passesLength_bays rfl rfl).symm, by decide,
      by decide⟩
  case sendNote =>
    exact ⟨_, _, _, _, fun _ => rfl, (readNoteBytes_isSome _).trans (Bool.and_true _).symm, by decide, by decide⟩
  case setPortSettings =>
    exact ⟨_, _, _, _, fun _ => rfl, (readPortSettings_isSome _).trans (passesLength_fixed rfl).symm, by decide,
      by decide⟩
  case setIndication =>
    exact ⟨_, _, _, _, fun _ => rfl, (readSetIndication_isSome _).trans (passesLength_plainBays rfl rfl rfl).symm,
      by decide, by decide⟩
  case clearIndication =>
    exact ⟨_, _, _, _, fun _ => rfl, (readClearIndication_isSome _).trans (passesLength_plainBays rfl rfl rfl).symm,
      by decide, by decide⟩
  case reportDriveTemperatures =>
    exact ⟨_, _, _, _, fun _ => rfl, (readReport_isSome _).trans (Bool.and_true _).symm, by decide, by decide⟩
  case setZone =>
    exact ⟨_, _, _, _, fun _ => rfl, (readSetZone_isSome _).trans (passesLength_fixed rfl).symm, by decide,
      by decide⟩
  case setCurve =>
    exact ⟨_, _, _, _, fun _ => rfl, (readSetCurve_isSome _).trans (Bool.and_true _).symm, by decide, by decide⟩
  case setSensorMap =>
    exact ⟨_, _, _, _, fun _ => rfl, (readSensorMap_isSome _).trans (passesLength_fixed rfl).symm, by decide,
      by decide⟩
  case setProfile =>
    exact ⟨_, _, _, _, fun _ => rfl, (readSetProfile_isSome _).trans (passesLength_plain rfl rfl).symm, by decide,
      by decide⟩
  case setScheduler =>
    exact ⟨_, _, _, _, fun _ => rfl, (readSetScheduler_isSome _).trans (passesLength_fixed rfl).symm, by decide,
      by decide⟩
  case setSupply =>
    exact ⟨_, _, _, _, fun _ => rfl, (readSetSupply_isSome _).trans (passesLength_fixed rfl).symm, by decide,
      by decide⟩
  case setBudget =>
    exact ⟨_, _, _, _, fun _ => rfl, (readSetBudget_isSome _).trans (passesLength_fixed rfl).symm, by decide,
      by decide⟩
  case setRemoval =>
    exact ⟨_, _, _, _, fun _ => rfl, (readSetRemoval_isSome _).trans (passesLength_fixed rfl).symm, by decide,
      by decide⟩
  case writeStep =>
    exact ⟨_, _, _, _, fun _ => rfl, (readWriteStep_isSome _).trans (Bool.and_true _).symm, by decide, by decide⟩

/-! ### The judgement -/

theorem badType_listening {p : Port} {s : State} (h : s.Listening p) (kind tag : Byte) :
    badType p kind tag s = sendReply p kind.toNat tag (refuse .badType (hear p s)) := by
  obtain ⟨hrun, hline, hfree⟩ := h
  simp [badType, State.deaf, hrun, hline, hfree]

/-- Settles O8: the wrapper judges length, LOADING and class in this order. -/
theorem judgementOrder : Obligations.JudgementOrder := by
  refine ⟨fun p kind tag pl s hunknown hlisten => ?_, fun i p kind tag pl s hi hk hr hlisten hlen => ?_,
    fun i p kind tag pl s hi hk hr hlisten hload hlen hid hst => ?_,
    fun i p kind tag pl s hi hk hr htaking hrole hlen => ?_⟩
  · have hk : kind.toNat ∉ requestCodes := of_decide_eq_true hunknown
    simp only [Answers, exec, execUnknownRequestType, if_neg hk, badType_listening hlisten, refuse]
  · obtain ⟨α, cls, args, act, hexec, hargs, -, -⟩ := exec_judged hi hk hr
    obtain rfl : args = none := by simpa [hlen] using hargs
    rw [Answers, hexec, request_listening hlisten, refuse]
  · obtain ⟨α, cls, args, act, hexec, hargs, halways, -⟩ := exec_judged hi hk hr
    obtain ⟨a, rfl⟩ : ∃ a, args = some a := Option.isSome_iff_exists.mp (hargs.trans hlen)
    have hcls : cls ≠ .always := fun h => (halways h).elim hid hst
    rw [Answers, hexec, request_listening hlisten]
    simp [hload, hcls, refuse]
  · have hknown : kind.toNat ∈ requestCodes := List.all_eq_true.mp (by decide :
      (controllingCodes.all (decide <| · ∈ requestCodes)) = true) _ hk |> of_decide_eq_true
    obtain ⟨α, cls, args, act, hexec, hargs, -, hcls⟩ := exec_judged hi hknown hr
    obtain ⟨a, rfl⟩ : ∃ a, args = some a := Option.isSome_iff_exists.mp (hargs.trans hlen)
    rw [Answers, hexec, request_listening htaking.1]
    simp [htaking.2, hcls hk, hrole, refuse]

end Sys2Proof.Machine

/-!
PROOF. The reports: the codes, flag bytes and positions of 11.4 as numbers, READ CHANGES, and the queries that
only report.
-/

namespace Sys2Proof.Machine

/-! ### Codes and flag bytes (11.3, 11.4) -/

theorem BayState.code_eq (x : BayState) :
    x.code = [BayState.empty, .settling, .off, .queued, .starting, .ready, .backoff, .stopping,
      .removable, .fault].idxOf x := by
  cases x <;> rfl

theorem LastEvent.code_eq (x : LastEvent) :
    x.code = [LastEvent.none, .inserted, .removed, .removedLive, .queued, .admitted, .ready, .tripped,
      .faulted, .stopped, .removable, .windowExpired, .cancelled, .shed, .collapse, .button].idxOf x := by
  cases x <;> rfl

theorem Origin.code_eq (x : Origin) :
    x.code = [Origin.request, .insertion, .restart, .plan, .retry, .shed, .restore].idxOf x := by
  cases x <;> rfl

theorem FaultCause.code_eq (x : FaultCause) : x.code = [FaultCause.startTrip, .runTrip].idxOf x := by
  cases x <;> rfl

theorem FanState.code_eq (x : FanState) : x.code = [FanState.absent, .running, .failed].idxOf x := by
  cases x <;> rfl

theorem SaveResult.code_eq (x : SaveResult) : x.code = [SaveResult.none, .ok, .failed].idxOf x := by
  cases x <;> rfl

theorem EngineState.code_eq (x : EngineState) :
    x.code = [EngineState.idle, .running, .paused, .aborting, .done].idxOf x := by
  cases x <;> rfl

theorem PlanOutcome.code_eq (x : PlanOutcome) : x.code = [PlanOutcome.complete, .aborted].idxOf x := by
  cases x <;> rfl

theorem StepAction.code_eq (x : StepAction) :
    x.code = [StepAction.none, .on, .off, .remove, .waitTime, .waitSettled].idxOf x := by
  cases x <;> rfl

theorem StepResult.code_eq (x : StepResult) : x.code = [StepResult.pending, .done, .partly, .skipped].idxOf x := by
  cases x <;> rfl

theorem byte_portCode (x : Option Port) :
    byte (portCode x) = match x with | none => (0 : Byte) | some .a => 1 | some .b => 2 := by
  rcases x with _ | _ | _ <;> rfl

theorem bits_three : ∀ a b c : Bool,
    bits [a, b, c] = (if a then 1 else 0) + (if b then 2 else 0) + (if c then 4 else 0) := by
  decide

theorem bits_four : ∀ a b c d : Bool,
    bits [a, b, c, d] = (if a then 1 else 0) + (if b then 2 else 0) + (if c then 4 else 0) + (if d then 8 else 0) := by
  decide

theorem bits_five : ∀ a b c d e : Bool,
    bits [a, b, c, d, e] = (if a then 1 else 0) + (if b then 2 else 0) + (if c then 4 else 0)
      + (if d then 8 else 0) + (if e then 16 else 0) := by
  decide

theorem bits_seven : ∀ a b c d e f g : Bool,
    bits [a, b, c, d, e, f, g] = (if a then 1 else 0) + (if b then 2 else 0) + (if c then 4 else 0)
      + (if d then 8 else 0) + (if e then 16 else 0) + (if f then 32 else 0) + (if g then 64 else 0) := by
  decide

/-! ### The queue as a bay record reports it -/

theorem queueFind_position (b : BayId) (n : Nat) (q : List Entry) :
    (queueFind b n q).map (·.1) = (q.findIdx? fun e => e.bay = b).map (· + n) := by
  induction q generalizing n with
  | nil => rfl
  | cons e q ih =>
    by_cases h : e.bay = b
    · simp [queueFind, h, List.findIdx?_cons]
    · simp only [queueFind, ih, List.findIdx?_cons, decide_false, Bool.false_eq_true, if_false, h,
        Option.map_map]
      congr 1
      funext k
      simp only [Function.comp]
      omega

theorem queueFind_bypass (b : BayId) (n : Nat) (q : List Entry) :
    (queueFind b n q).map (·.2) = (q.find? fun e => e.bay = b).map (·.bypass) := by
  induction q generalizing n with
  | nil => rfl
  | cons e q ih =>
    by_cases h : e.bay = b <;> simp [queueFind, h, ih]

/-! ### The summaries (11.4) -/

theorem fanBits_eq (s : State) (z : ZoneId) :
    s.fanBits z = (s.fans.get (fanOf z 0)).state.code + 4 * (s.fans.get (fanOf z 1)).state.code
      + 16 * (s.fans.get (fanOf z 2)).state.code + 64 * (s.fans.get (fanOf z 3)).state.code := by
  simp only [State.fanBits, State.fanStates, List.finRange_succ, List.finRange_zero, List.map_cons, List.map_nil,
    List.foldr_cons, List.foldr_nil]
  simp only [Fin.succ_zero_eq_one, Fin.reduceSucc]
  ring

theorem length_summary (s : State) (p : Port) (o : Obj) :
    (s.summary p o).length = match o with
      | .bay _ => 10 | .supply _ => 4 | .zone _ => 5 | .enclosure => 4 | .plan => 5 | .note => 2 := by
  cases o <;> rfl

theorem changeEntry_eq (s : State) (p : Port) (o : Obj) :
    s.changeEntry p o = [byte (match o with
        | .bay _ => 0 | .supply _ => 1 | .zone _ => 2 | .enclosure => 3 | .plan => 4 | .note => 5),
      byte (match o with
        | .bay b => b.val | .supply i => i.val | .zone z => z.val | _ => 0),
      byte (match o with
        | .bay _ => 10 | .supply _ => 4 | .zone _ => 5 | .enclosure => 4 | .plan => 5 | .note => 2)]
      ++ s.summary p o := by
  simp only [State.changeEntry, length_summary]
  cases o <;> rfl

theorem summary_hear (p q : Port) (s : State) (o : Obj) : (hear p s).summary q o = s.summary q o := by
  cases o
  case note => cases p <;> cases q <;> rfl
  all_goals rfl

/-! ### READ CHANGES -/

theorem readChangesAct_hear (p : Port) (s : State) :
    readChangesAct p () (hear p s) = report
      (byte ((s.port p).changes.length - 8) :: byte (min 8 (s.port p).changes.length) ::
        ((s.port p).changes.take 8).flatMap (s.changeEntry p))
      { s with ports := s.ports.set p { s.port p with
          receiver := .hunting, silenceMs := 0, changes := (s.port p).changes.drop 8
          attention := decide (8 < (s.port p).changes.length) } } := by
  have hattention : (!((s.port p).changes.drop 8).isEmpty) = decide (8 < (s.port p).changes.length) := by
    rw [Bool.eq_iff_iff]
    simp [List.drop_eq_nil_iff]
  have hentry : (hear p s).changeEntry p = s.changeEntry p := by
    funext o
    simp only [State.changeEntry, summary_hear]
  have hstate : (hear p s).updPort p PortState.takeChanges = { s with ports := s.ports.set p { s.port p with
      receiver := .hunting, silenceMs := 0, changes := (s.port p).changes.drop 8
      attention := decide (8 < (s.port p).changes.length) } } := by
    rw [hear, updPort_updPort, ← hattention]
    rfl
  simp only [readChangesAct, hear_port, hentry, hstate, List.length_drop, List.length_take]

/-- Settles O10: the entries by the summary each object has, the summaries and the full record field by field. -/
theorem readChangesTakesEight : Obligations.ReadChangesTakesEight := by
  refine ⟨fun p tag s htaking => ?_, fun p b i z s => ⟨?_, ?_, ?_, ?_, ?_, ?_, ?_⟩⟩
  · refine congrArg Host.Outcome.next ((request_anyPort htaking 0x03 tag () (readChangesAct p)).trans ?_)
    rw [readChangesAct_hear, show s.changeEntry p = _ from funext (changeEntry_eq s p), report] <;> rfl
  · simp only [State.summary, State.baySummary, BayState.code_eq, byte_portCode, LastEvent.code_eq, bayFlags,
      bits_seven, IndSet.toNat, bits_five] <;> rfl
  · simp only [State.bayRecord, queueFind_position, queueFind_bypass, IndSet.toNat, bits_five, Nat.add_zero,
      Option.map_id', show Origin.code = _ from funext Origin.code_eq,
      show FaultCause.code = _ from funext FaultCause.code_eq] <;> rfl
  · rfl
  · simp only [State.summary, State.zoneSummary, Zone.flags, bits_four, fanBits_eq, FanState.code_eq] <;> rfl
  · simp only [State.summary, State.enclosureSummary, SaveResult.code_eq, State.enclosureFlags, bits_four,
      byte_portCode] <;> rfl
  · simp only [State.summary, State.planSummary, EngineState.code_eq, StepResult.code_eq,
      show PlanOutcome.code = _ from funext PlanOutcome.code_eq] <;> rfl
  · rfl

/-! ### Queries -/

theorem bayOf_of_val {x : Byte} {b : BayId} (h : x.toNat = b.val) : bayOf x = some b := by
  simp [bayOf, h]

theorem bayOf_of_ge {x : Byte} (h : 60 ≤ x.toNat) : bayOf x = none := by
  simp [bayOf, Nat.not_lt.mpr h]

theorem fourOf_of_val {x : Byte} {z : Fin 4} (h : x.toNat = z.val) : fourOf x = some z := by
  simp [fourOf, h]

theorem fourOf_of_ge {x : Byte} (h : 4 ≤ x.toNat) : fourOf x = none := by
  simp [fourOf, Nat.not_lt.mpr h]

theorem profileOf_of_val {x : Byte} {i : ProfileId} (h : x.toNat = i.val) : profileOf x = some i := by
  simp [profileOf, h]

theorem profileOf_of_ge {x : Byte} (h : 8 ≤ x.toNat) : profileOf x = none := by
  simp [profileOf, Nat.not_lt.mpr h]

theorem slotOf_of_val {x : Byte} {i : SlotId} (h : x.toNat = i.val) : slotOf x = some i := by
  simp [slotOf, h]

theorem slotOf_of_ge {x : Byte} (h : 32 ≤ x.toNat) : slotOf x = none := by
  simp [slotOf, Nat.not_lt.mpr h]

theorem length_bayRun (b : BayId) (n : Nat) :
    (bayRun b n).length = min (max 1 (min 20 n)) (60 - b.val) := by
  simp [bayRun, allBays, clamp]

/-- A request of any port's class whose act comes to answer `a` is answered so. -/
theorem answers_anyPort {α : Type} {p : Port} {s t : State} (h : s.Taking p) {i : Instr} {code : Nat} {tag : Byte}
    {args : Option α} {act : α → State → Answer}
    (hi : exec i s = .next (request .anyPort code p tag args act s)) {a : α} (hargs : args = some a) {r : Result}
    {pl : List Byte} (hact : act a (hear p s) = { state := t, result := r, payload := pl }) :
    Answers i s p code tag r pl t := by
  rw [Answers, hi, hargs, request_anyPort h, hact]

theorem bayRecord_hear (p : Port) (s : State) : (hear p s).bayRecord = s.bayRecord := by rfl
theorem summaryReport_hear (p : Port) (s : State) : (hear p s).summaryReport = s.summaryReport := by rfl
theorem queueReport_hear (p : Port) (s : State) : (hear p s).queueReport = s.queueReport := by rfl
theorem removalReport_hear (p : Port) (s : State) : (hear p s).removalReport = s.removalReport := by rfl
theorem ledgerReport_hear (p : Port) (s : State) : (hear p s).ledgerReport = s.ledgerReport := by rfl
theorem zoneReport_hear (p : Port) (s : State) : (hear p s).zoneReport = s.zoneReport := by rfl
theorem profileReport_hear (p : Port) (s : State) : (hear p s).profileReport = s.profileReport := by rfl
theorem stepReport_hear (p : Port) (s : State) : (hear p s).stepReport = s.stepReport := by rfl
theorem lightReport_hear (p : Port) (s : State) : (hear p s).lightReport = s.lightReport := by
  cases p <;> rfl

/-- Settles O11: each query is judged by its operand alone, and its report is read from the state as it stands. -/
theorem queriesOnlyReport : Obligations.QueriesOnlyReport := by
  intro p tag x y z s h
  refine ⟨fun b hx => ⟨?_, ?_, fun hz => ?_, ?_, ?_, ?_⟩, fun hx => ⟨?_, ?_, ?_, ?_⟩, ?_, fun v hx => ?_, fun hx => ?_,
    fun i hx => ?_, fun hx => ?_, fun i hx => ?_, fun hx => ?_⟩
  · refine answers_anyPort h rfl rfl ?_
    simp only [bayQueryAct, bayOf_of_val hx, if_true, State.summaryReport, length_bayRun, ← hx]
    rw [bayRun, ← hx]
    rfl
  · refine answers_anyPort h rfl rfl ?_
    simp only [bayQueryAct, bayOf_of_val hx, bayRecord_hear]
    rfl
  · have h0 : z ≠ 0 := fun h => absurd hz (by simp [h])
    have h1 : z ≠ 1 := fun h => absurd hz (by simp [h])
    refine answers_anyPort h rfl rfl ?_
    simp only [bayQueryAct, bayOf_of_val hx, if_neg h0, if_neg h1, refuse]
  · refine answers_anyPort h rfl rfl ?_
    have hlt : x.toNat < 60 := hx ▸ b.isLt
    simp only [startQuery, if_pos hlt, queueReport_hear, report]
  · refine answers_anyPort h rfl rfl ?_
    simp only [lightQueryAct, bayOf_of_val hx, lightReport_hear, report]
  · refine answers_anyPort h rfl rfl ?_
    have hlt : x.toNat < 60 := hx ▸ b.isLt
    simp only [startQuery, if_pos hlt, removalReport_hear, report]
  · refine answers_anyPort h rfl rfl ?_
    simp only [bayQueryAct, bayOf_of_ge hx, refuse]
  · refine answers_anyPort h rfl rfl ?_
    simp only [startQuery, if_neg (Nat.not_lt.mpr hx), refuse]
  · refine answers_anyPort h rfl rfl ?_
    simp only [lightQueryAct, bayOf_of_ge hx, refuse]
  · refine answers_anyPort h rfl rfl ?_
    simp only [startQuery, if_neg (Nat.not_lt.mpr hx), refuse]
  · exact answers_anyPort h rfl rfl (congrArg (report · _) (ledgerReport_hear p s))
  · refine answers_anyPort h rfl rfl ?_
    simp only [zoneQueryAct, fourOf_of_val hx, zoneReport_hear, report]
  · refine answers_anyPort h rfl rfl ?_
    simp only [zoneQueryAct, fourOf_of_ge hx, refuse]
  · refine answers_anyPort h rfl rfl ?_
    simp only [readProfileAct, profileOf_of_val hx, profileReport_hear, report]
  · refine answers_anyPort h rfl rfl ?_
    simp only [readProfileAct, profileOf_of_ge hx, refuse]
  · refine answers_anyPort h rfl rfl ?_
    simp only [readStepAct, slotOf_of_val hx, stepReport_hear, report]
  · refine answers_anyPort h rfl rfl ?_
    simp only [readStepAct, slotOf_of_ge hx, refuse]

end Sys2Proof.Machine

/-!
PROOF. The payloads of the seven queries (11.5), each field as the manual names it; the shed choice (R64) and the
hottest fresh bay of a zone as what they are chosen for.
-/

namespace Sys2Proof.Machine

/-! ### Rounded times -/

theorem ticksLeft_bounds (n : Nat) : n / 100 ≤ ticksLeft n ∧ ticksLeft n * 100 < n + 100 := by
  rw [ticksLeft, Config.tickMs]
  by_cases h : n % 100 = 0
  · rw [if_pos h]
    omega
  · rw [if_neg h]
    cases Config.ticksRoundUp <;> simp <;> omega

theorem shedSecondsLeft_bounds (n : Nat) : n / 1000 ≤ shedSecondsLeft n ∧ shedSecondsLeft n * 1000 < n + 1000 := by
  rw [shedSecondsLeft, Config.secondMs]
  by_cases h : n % 1000 = 0
  · rw [if_pos h]
    omega
  · rw [if_neg h]
    cases Config.shedSecondsRoundUp <;> simp <;> omega

/-! ### Codes of policies and lights -/

theorem Mode.code_eq (x : Mode) : x.code = if x = .strict then 0 else 1 := by cases x <;> rfl
theorem InsertionPolicy.code_eq (x : InsertionPolicy) : x.code = if x = .manual then 0 else 1 := by cases x <;> rfl
theorem RestartPolicy.code_eq (x : RestartPolicy) : x.code = if x = .hold then 0 else 1 := by cases x <;> rfl
theorem ReservePolicy.code_eq (x : ReservePolicy) : x.code = if x = .none then 0 else 1 := by cases x <;> rfl
theorem ExpiryPolicy.code_eq (x : ExpiryPolicy) : x.code = if x = .remainOff then 0 else 1 := by cases x <;> rfl
theorem ButtonAction.code_eq (x : ButtonAction) : x.code = if x = .notify then 0 else 1 := by cases x <;> rfl

theorem green_code (y : Bay) : y.green.code = match y.state with
    | .queued => 4 | .starting => 2 | .ready => 5 | .backoff => 3 | .stopping => 3 | _ => 0 := by
  unfold Bay.green
  cases y.state <;> rfl

theorem amber_code (y : Bay) : y.amber.code
    = if y.state = .fault ∨ (y.indications.a.failed || y.indications.b.failed) = true then 1
      else if y.attention then 3
      else if y.indications.a.predicted || y.indications.b.predicted then 2
      else if y.indications.a.rebuild || y.indications.b.rebuild then 4 else 0 := by
  have hfailed : y.effective.failed = (y.indications.a.failed || y.indications.b.failed) := rfl
  have hpredicted : y.effective.predicted = (y.indications.a.predicted || y.indications.b.predicted) := rfl
  have hrebuild : y.effective.rebuild = (y.indications.a.rebuild || y.indications.b.rebuild) := rfl
  simp only [Bay.amber, ite_or, hfailed, hpredicted, hrebuild, apply_ite Pattern.code]
  rfl

theorem blue_code (y : Bay) : y.blue.code
    = if y.state = .removable then 1 else if y.indications.a.locate || y.indications.b.locate then 2
      else if y.indications.a.hotspare || y.indications.b.hotspare then 4 else 0 := by
  have hlocate : y.effective.locate = (y.indications.a.locate || y.indications.b.locate) := rfl
  have hhotspare : y.effective.hotspare = (y.indications.a.hotspare || y.indications.b.hotspare) := rfl
  simp only [Bay.blue, hlocate, hhotspare, apply_ite Pattern.code]
  rfl

theorem powered_iff (x : BayState) : x.powered = true ↔ x ∈ [BayState.starting, .ready] := by
  cases x <;> decide

/-! ### The shed choice (R64) -/

/-- Bay `b` of state `s` can be shed. -/
abbrev State.CanShed (s : State) (b : BayId) : Prop := (s.bay b).state = .ready ∧ (s.bayCfg b).sheddable = true

/-- Bay `b` comes before `d` for a shed: a higher level, or at equal level a higher number. -/
abbrev State.ShedsBefore (s : State) (b d : BayId) : Prop :=
  (s.bayCfg d).level < (s.bayCfg b).level ∨ ((s.bayCfg d).level = (s.bayCfg b).level ∧ d < b)

/-- The choice among the bays of a list. -/
def State.ShedBest (s : State) (l : List BayId) : Option BayId → Prop
  | none => ∀ d ∈ l, ¬ s.CanShed d
  | some b => s.CanShed b ∧ b ∈ l ∧ ∀ d ∈ l, s.CanShed d → d ≠ b → s.ShedsBefore b d

/-- One bay more is judged against the best so far (R64). -/
def State.betterShed (s : State) (best : Option BayId) (b : BayId) : Option BayId :=
  if (s.bay b).state = .ready && (s.bayCfg b).sheddable then
    match best with
    | none => some b
    | some c => if (s.bayCfg c).level ≤ (s.bayCfg b).level then some b else some c
  else best

theorem shedChoice_eq (s : State) : s.shedChoice = allBays.foldl s.betterShed none := by rfl

theorem betterShed_of_not {s : State} {b : BayId} (h : ¬ s.CanShed b) (best : Option BayId) :
    s.betterShed best b = best :=
  if_neg (by simpa using h)

theorem betterShed_none {s : State} {b : BayId} (h : s.CanShed b) : s.betterShed none b = some b :=
  if_pos (by simpa using h)

theorem betterShed_some {s : State} {b : BayId} (h : s.CanShed b) (c : BayId) :
    s.betterShed (some c) b = if (s.bayCfg c).level ≤ (s.bayCfg b).level then some b else some c :=
  if_pos (by simpa using h)

theorem shedBest_snoc {s : State} {l : List BayId} {best : Option BayId} {b : BayId} (h : s.ShedBest l best)
    (hlast : ∀ d ∈ l, d < b) : s.ShedBest (l ++ [b]) (s.betterShed best b) := by
  by_cases hcan : s.CanShed b
  · cases best with
    | none =>
      rw [betterShed_none hcan]
      refine ⟨hcan, by simp, fun d hd hcan' hne => ?_⟩
      rcases List.mem_append.mp hd with hd | hd
      · exact (h d hd hcan').elim
      · exact (hne (List.mem_singleton.mp hd)).elim
    | some c =>
      obtain ⟨hc, hmem, hbest⟩ := h
      rw [betterShed_some hcan]
      split
      · next hle =>
        refine ⟨hcan, by simp, fun d hd hcan' hne => ?_⟩
        rcases List.mem_append.mp hd with hd | hd
        · have hlt := hlast d hd
          by_cases hdc : d = c
          · subst hdc
            rcases lt_or_eq_of_le hle with hl | hl
            · exact .inl hl
            · exact .inr ⟨hl, hlt⟩
          · rcases hbest d hd hcan' hdc with hl | ⟨hl, -⟩
            · exact .inl (lt_of_lt_of_le hl hle)
            · rcases lt_or_eq_of_le hle with hl' | hl'
              · exact .inl (hl ▸ hl')
              · exact .inr ⟨hl.trans hl', hlt⟩
        · exact (hne (List.mem_singleton.mp hd)).elim
      · next hlt =>
        refine ⟨hc, by simp [hmem], fun d hd hcan' hne => ?_⟩
        rcases List.mem_append.mp hd with hd | hd
        · exact hbest d hd hcan' hne
        · obtain rfl := List.mem_singleton.mp hd
          exact .inl (not_le.mp hlt)
  · rw [betterShed_of_not hcan]
    cases best with
    | none =>
      intro d hd
      rcases List.mem_append.mp hd with hd | hd
      · exact h d hd
      · exact List.mem_singleton.mp hd ▸ hcan
    | some c =>
      obtain ⟨hc, hmem, hbest⟩ := h
      refine ⟨hc, by simp [hmem], fun d hd hcan' hne => ?_⟩
      rcases List.mem_append.mp hd with hd | hd
      · exact hbest d hd hcan' hne
      · exact (hcan (List.mem_singleton.mp hd ▸ hcan')).elim

theorem shedBest_foldl (s : State) {l : List BayId} (h : l.Pairwise (· < ·)) :
    s.ShedBest l (l.foldl s.betterShed none) := by
  induction l using List.reverseRecOn with
  | nil => exact fun d hd => (List.not_mem_nil hd).elim
  | append_singleton l b ih =>
    obtain ⟨hl, -, hlast⟩ := List.pairwise_append.mp h
    rw [List.foldl_append]
    exact shedBest_snoc (ih hl) fun d hd => hlast d hd b (List.mem_singleton_self b)

/-- The choice is the READY sheddable bay no other exceeds, and none where there is no such bay (R64). -/
theorem shedChoice_best (s : State) : s.ShedBest allBays s.shedChoice :=
  shedBest_foldl s (List.pairwise_lt_finRange 60)

theorem shedChoice_none {s : State} (h : ∀ b, ¬ s.CanShed b) : s.shedChoice = none := by
  have hbest := shedChoice_best s
  cases hc : s.shedChoice with
  | none => rfl
  | some b =>
    rw [hc] at hbest
    exact (h b hbest.1).elim

theorem shedChoice_some {s : State} {b : BayId} (hcan : s.CanShed b)
    (hmax : ∀ d, s.CanShed d → d ≠ b → s.ShedsBefore b d) : s.shedChoice = some b := by
  have hbest := shedChoice_best s
  cases hc : s.shedChoice with
  | none =>
    rw [hc] at hbest
    exact (hbest b (mem_allBays b) hcan).elim
  | some c =>
    rw [hc] at hbest
    obtain ⟨hcanc, -, hcmax⟩ := hbest
    by_contra hne
    have hcb : c ≠ b := fun h => hne (h ▸ rfl)
    have h1 := hmax c hcanc hcb
    have h2 := hcmax b (mem_allBays b) hcan hcb.symm
    simp only [State.ShedsBefore, Fin.lt_def, Fin.ext_iff] at h1 h2
    omega

/-! ### Drive temperatures of a zone (R122) -/

/-- Bay `b` of zone `z` is powered and reported `v`, by its age fresh or not. -/
abbrev State.Warm (s : State) (z : ZoneId) (b : BayId) (v : Int) (fresh : Prop) : Prop :=
  (s.bayCfg b).zone = z ∧ (s.bay b).state ∈ [BayState.starting, .ready]
  ∧ ∃ d ∈ (s.bay b).temp, d.value = v ∧ (min (d.ageMs / 1000) 65535 ≤ s.settings.staleness ↔ fresh)

theorem warm_iff {s : State} {z : ZoneId} {b : BayId} (hzone : (s.bayCfg b).zone = z)
    (hpow : (s.bay b).state.powered = true) {d : DriveTemp} (htemp : (s.bay b).temp = some d) (v : Int)
    (fresh : Prop) : s.Warm z b v fresh ↔ d.value = v ∧ (d.age ≤ s.settings.staleness ↔ fresh) := by
  refine ⟨fun ⟨_, _, e, he, hv, hage⟩ => ?_, fun h => ⟨hzone, (powered_iff _).mp hpow, d, htemp, h⟩⟩
  obtain rfl : d = e := Option.some.inj (htemp.symm.trans he)
  exact ⟨hv, hage⟩

theorem tempOf_eq_some (s : State) (z : ZoneId) (fresh : Bool) (b : BayId) (v : Int) :
    s.tempOf z fresh b = some v ↔ s.Warm z b v (fresh = true) := by
  unfold State.tempOf
  by_cases hon : (s.bayCfg b).zone = z ∧ (s.bay b).state.powered = true
  · rw [if_pos (by simpa using hon)]
    cases htemp : (s.bay b).temp with
    | none => simp [State.Warm, htemp]
    | some d =>
      rw [warm_iff hon.1 hon.2 htemp]
      cases fresh <;> simp [and_comm]
  · rw [if_neg (by simpa using hon)]
    exact iff_of_false (by simp) fun h => hon ⟨h.1, (powered_iff _).mpr h.2.1⟩

theorem tempOf_isSome (s : State) (z : ZoneId) (fresh : Bool) (b : BayId) :
    (s.tempOf z fresh b).isSome = true ↔ ∃ v, s.Warm z b v (fresh = true) := by
  simp only [Option.isSome_iff_exists, tempOf_eq_some]

theorem hottest_none {l : List Int} (h : hottest l = none) : l = [] := by
  cases l with
  | nil => rfl
  | cons t rest => cases hrest : hottest rest <;> simp [hottest, hrest] at h

theorem hottest_le {l : List Int} {t : Int} (h : hottest l = some t) : ∀ u ∈ l, u ≤ t := by
  induction l generalizing t with
  | nil => exact fun u hu => (List.not_mem_nil hu).elim
  | cons w rest ih =>
    intro u hu
    cases hrest : hottest rest with
    | none =>
      obtain rfl : w = t := by simpa [hottest, hrest] using h
      rw [hottest_none hrest] at hu
      exact le_of_eq (List.mem_singleton.mp hu)
    | some v =>
      obtain rfl : max w v = t := by simpa [hottest, hrest] using h
      rcases List.mem_cons.mp hu with rfl | hu
      · exact le_max_left _ _
      · exact le_max_of_le_right (ih hrest u hu)

/-- The bay named has a fresh temperature that no fresh one exceeds; none is named exactly without a fresh one. -/
theorem hottestBay_spec (s : State) (z : ZoneId) :
    (s.hottestBay z = none ↔ ∀ b, (s.tempOf z true b).isSome = false)
    ∧ ∀ b v, s.hottestBay z = some (b, v) → s.tempOf z true b = some v
        ∧ ∀ d w, s.tempOf z true d = some w → w ≤ v := by
  unfold State.hottestBay
  cases hhot : hottest (allBays.filterMap (s.tempOf z true)) with
  | none =>
    have hnone := List.filterMap_eq_nil_iff.mp (hottest_none hhot)
    simp [fun b => hnone b (mem_allBays b)]
  | some t =>
    have hmem := hottest_mem hhot
    have hmax := hottest_le hhot
    obtain ⟨b₀, -, hb₀⟩ := List.mem_filterMap.mp hmem
    have htie : b₀ ∈ allBays.filter fun b => s.tempOf z true b = some t := by
      simp [mem_allBays, hb₀]
    have hle : ∀ d w, s.tempOf z true d = some w → w ≤ t := fun d w hd =>
      hmax w (List.mem_filterMap.mpr ⟨d, mem_allBays d, hd⟩)
    have hwarm : ∀ b ∈ allBays.filter fun b => s.tempOf z true b = some t, s.tempOf z true b = some t := by
      intro b hb
      simpa using (List.mem_filter.mp hb).2
    have hsome : ¬ ∀ b, (s.tempOf z true b).isSome = false := fun h => by simpa [hb₀] using h b₀
    dsimp only
    generalize allBays.filter (fun b => s.tempOf z true b = some t) = ties at htie hwarm
    match ties, htie, hwarm with
    | [], h, _ => exact (List.not_mem_nil h).elim
    | [b], _, hwarm =>
      refine ⟨by simpa using hsome, fun c v h => ?_⟩
      obtain ⟨rfl, rfl⟩ : b = c ∧ t = v := by simpa using h
      exact ⟨hwarm b (List.mem_singleton_self b), hle⟩
    | b :: c :: rest, _, hwarm =>
      refine ⟨by simpa using hsome, fun d v h => ?_⟩
      obtain ⟨rfl, rfl⟩ := Prod.mk.inj (Option.some.inj h)
      refine ⟨hwarm _ ?_, hle⟩
      rw [List.getD_eq_getElem _ _ (Nat.mod_lt _ (by simp))]
      exact List.getElem_mem _

end Sys2Proof.Machine

/-!
PROOF. The payloads of the seven queries assembled (11.5).
-/

namespace Sys2Proof.Machine

/-! ### Pieces of the payloads -/

theorem byte_boolNat (b : Bool) : byte (boolNat b) = byte (if b then 1 else 0) := by
  cases b <;> rfl

theorem LocateTimer.report_eq (t : LocateTimer) :
    t.report = match t with
      | .idle => le16 0 | .indefinite => le16 65535 | .running n => le16 ((n + 999) / 1000) := by
  cases t <;> rfl

theorem isSet_eq (t : LocateTimer) : t.isSet = decide (t ≠ .idle) := by
  cases t <;> simp [LocateTimer.isSet]

theorem length_take_drop {α : Type} (l : List α) (m n : Nat) :
    ((l.drop m).take n).length = min n (l.length - m) := by
  simp

/-- A zone's share of the fan reservation, rounded up (R57). -/
theorem fanShare_eq (s : State) (z : ZoneId) : s.fanShare z = (s.zoneCfg z).fanCount
    * (((s.zoneCfg z).fanDraw * (s.zone z).reservation * (s.zone z).reservation * (s.zone z).reservation + 999999)
      / 1000000) := by
  have hup : ∀ n, ceilDiv n 1000000 = (n + 999999) / 1000000 := fun n => by
    rw [ceilDiv]
    omega
  rw [State.fanShare, fanReservation, hup]

theorem guardEngaged_eq (s : State) :
    s.guardEngaged = decide (s.settings.scheduler.mode = .fill ∧ ∃ e ∈ s.queue, s.bayHeld e.bay = false
      ∧ s.settings.scheduler.bypassLimit ≤ e.bypass) := by
  rw [Bool.eq_iff_iff]
  simp [State.guardEngaged, State.starved, State.eligible]

theorem inProtocol_eq (y : Bay) : y.inProtocol
    = decide (y.state = .removable ∨ (y.state = .stopping ∧ y.removalIntended = true)) := by
  rw [Bool.eq_iff_iff]
  simp [Bay.inProtocol]

theorem powered_eq (x : BayState) : x.powered = decide (x ∈ [BayState.starting, .ready]) := by
  rw [Bool.eq_iff_iff, powered_iff, decide_eq_true_iff]

/-- The conditions of the fault light as they are said of some bay, fan, zone and supply (R96). -/
theorem faultConditions_eq (s : State) : s.faultConditions
    = [decide (∃ d : BayId, (s.bay d).state = .fault), decide (∃ f : FanId, (s.fans.get f).state = .failed),
        decide (∃ z : ZoneId, (s.zone z).overheat = true ∨ (s.zone z).blind = true),
        decide (∃ i : SupplyId, (s.settings.supplies.get i).installed = true ∧ (s.supplies.get i).good = false),
        s.overBudget] := by
  have hbay : s.faultBay = decide (∃ d : BayId, (s.bay d).state = .fault) := by
    rw [Bool.eq_iff_iff]
    simp [State.faultBay, mem_allBays]
  have hfan : s.faultFan = decide (∃ f : FanId, (s.fans.get f).state = .failed) := by
    rw [Bool.eq_iff_iff]
    simp only [State.faultFan, List.any_eq_true, List.mem_finRange, true_and, decide_eq_true_eq]
  have hzone : s.faultZone = decide (∃ z : ZoneId, (s.zone z).overheat = true ∨ (s.zone z).blind = true) := by
    rw [Bool.eq_iff_iff]
    simp only [State.faultZone, List.any_eq_true, List.mem_finRange, true_and, decide_eq_true_eq, Bool.or_eq_true]
  have hsupply : s.faultSupply = decide (∃ i : SupplyId, (s.settings.supplies.get i).installed = true
      ∧ (s.supplies.get i).good = false) := by
    rw [Bool.eq_iff_iff]
    simp only [State.faultSupply, List.any_eq_true, List.mem_finRange, true_and, decide_eq_true_eq,
      Bool.and_eq_true, Bool.not_eq_true']
  simp only [State.faultConditions, hbay, hfan, hzone, hsupply]

theorem byte_mapEntryCode (e : Option ZoneId) :
    byte (mapEntryCode e) = match e with | none => 0xFF | some w => byte w.val := by
  cases e <;> rfl

theorem tempOf_fresh (s : State) (z : ZoneId) (b : BayId) (v : Int) :
    s.tempOf z true b = some v ↔ s.Warm z b v True := by
  rw [tempOf_eq_some, eq_self]

theorem tempOf_stale (s : State) (z : ZoneId) (b : BayId) (v : Int) :
    s.tempOf z false b = some v ↔ s.Warm z b v False := by
  rw [tempOf_eq_some, eq_false Bool.false_ne_true]

theorem locatePattern_eq (s : State) : s.locatePattern
    = if (s.ports.a.locate.isSet || s.ports.b.locate.isSet) = true then .slow else .off := rfl

/-- Settles O18: the reports are the fields the manual names, with the choices it leaves free as Config makes
them. -/
theorem queryPayloads : Obligations.QueryPayloads := by
  intro s
  refine ⟨fun n => ⟨(ticksLeft_bounds n).1, (ticksLeft_bounds n).2, shedSecondsLeft_bounds n⟩, fun n => ?_, ?_,
    fun z => ?_, fun b n => ?_, fun n => ?_, fun i => ?_, fun i n => ?_⟩
  · simp only [State.queueReport, SchedulerSettings.block, Mode.code_eq, InsertionPolicy.code_eq,
      RestartPolicy.code_eq, guardEngaged_eq, byte_boolNat, length_take_drop, State.countIn,
      State.bayHeld, Zone.holds, List.cons_append, List.nil_append]
    rw [show s.entryReport = _ from funext fun e => by rw [State.entryReport, Origin.code_eq, byte_boolNat]] <;> rfl
  · refine ⟨s.shedChoice, shedChoice_none, fun b hcan hmax => shedChoice_some hcan hmax, ?_⟩
    have hcount : (fun b => decide ((s.bay b).state = .ready) && (s.bayCfg b).sheddable)
        = fun b => decide (s.CanShed b) := by
      funext b
      simp
    simp only [State.ledgerReport, State.supplySummary, BudgetSettings.block, ReservePolicy.code_eq, byte_boolNat,
      bits_three, hcount, fanShare_eq, State.countIn]
    simp only [← List.append_assoc] <;> rfl
  · refine ⟨fun b => (s.tempOf z true b).isSome, fun b => (s.tempOf z false b).isSome, s.hottestBay z,
      fun b => ⟨?_, ?_⟩, (hottestBay_spec s z).1, fun b v h => ?_, ?_⟩
    · simp only [Option.isSome_iff_exists, tempOf_fresh]
    · simp only [Option.isSome_iff_exists, tempOf_stale]
    · obtain ⟨hwarm, hmax⟩ := (hottestBay_spec s z).2 b v h
      exact ⟨(tempOf_fresh s z b v).mp hwarm, fun d w hd => hmax d w ((tempOf_fresh s z d w).mpr hd)⟩
    · simp only [State.zoneReport, ZoneSettings.block, Zone.queryFlags, bits_five, FanState.code_eq, byte_boolNat,
        Zone.holds, byte_mapEntryCode, fanShare_eq] <;> rfl
  · refine ⟨s.faultLitReport, s.locateLitReport, fun h => ?_, fun h htest => ?_, fun h htest => ?_, fun h hhalf => ?_, ?_⟩
    · rw [← faultConditions_eq] at h
      simp [State.faultLitReport, State.faultComposed, h]
    · rw [← faultConditions_eq] at h
      simp [State.faultLitReport, State.faultComposed, h, htest]
    · simp only [← isSet_eq] at h
      simp [State.locateLitReport, locatePattern_eq, h, htest]
    · simp only [← isSet_eq] at h
      simp [State.locateLitReport, locatePattern_eq, h, Pattern.lit, hhalf]
    · have htest : (s.lightTest.map ticksLeft).getD 0
          = match s.lightTest with | none => 0 | some t => ticksLeft t := by
        cases s.lightTest <;> rfl
      rw [State.lightReport, show s.lightEntry = _ from funext fun d => by
        rw [State.lightEntry, green_code, amber_code, blue_code, LocateTimer.report_eq, LocateTimer.report_eq],
        faultConditions_eq, bits_five, LocateTimer.report_eq, LocateTimer.report_eq, byte_boolNat, byte_boolNat, htest]
      simp only [List.getD_cons_zero, List.getD_cons_succ, List.cons_append, List.nil_append] <;> rfl
  · have hentry : s.removalEntry = fun b => [byte b.val,
        byte ([BayState.empty, .settling, .off, .queued, .starting, .ready, .backoff, .stopping, .removable,
          .fault].idxOf (s.bay b).state), byte (if (s.bay b).wasPowered then 1 else 0)] ++
        match (s.bay b).timer with
        | .removal t => le16 ((t + 999) / 1000) | .stop t => le16 (ticksLeft t) | _ => le16 65535 := by
      funext b
      rw [State.removalEntry, BayState.code_eq, byte_boolNat]
      cases (s.bay b).timer <;> rfl
    simp only [State.removalReport, RemovalSettings.block, ExpiryPolicy.code_eq, ButtonAction.code_eq, inProtocol_eq,
      length_take_drop, hentry, List.append_assoc, List.cons_append, List.nil_append] <;> rfl
  · have hcount : (fun b => decide ((s.bay b).profile = i) && (s.bay b).state.powered)
        = fun b => decide ((s.bay b).profile = i ∧ (s.bay b).state ∈ [BayState.starting, .ready]) := by
      funext b
      rw [powered_eq, Bool.decide_and]
    rw [State.profileReport, Profile.block, hcount] <;> rfl
  · have hwait : s.plan.wait.ticks
        = match s.plan.wait with | .idle => 0 | .running t => ticksLeft t | .frozen t => ticksLeft t := by
      cases s.plan.wait <;> rfl
    have hslot : (fun k => (s.plan.steps.get k).report k) = fun k : SlotId => [byte k.val,
        byte ([StepAction.none, .on, .off, .remove, .waitTime, .waitSettled].idxOf (s.plan.steps.get k).action),
        byte ((if (s.plan.steps.get k).notify then 1 else 0) + (if (s.plan.steps.get k).last then 2 else 0)),
        byte (s.plan.steps.get k).next.val] ++ le16 ((s.plan.steps.get k).wait.getD 0) ++
        [byte ([StepResult.pending, .done, .partly, .skipped].idxOf (s.plan.steps.get k).result),
          byte (s.plan.steps.get k).refused, byte (s.plan.steps.get k).bays.length] ++
        ((s.plan.steps.get k).bays ++ List.replicate 8 0xFF).take 8 := by
      funext k
      rw [Step.report, Step.flags, bits_two, StepAction.code_eq, StepResult.code_eq]
    simp only [State.stepReport, EngineState.code_eq, byte_portCode, hwait, hslot,
      show PlanOutcome.code = _ from funext PlanOutcome.code_eq] <;> rfl

end Sys2Proof.Machine

/-!
PROOF. Multi-bay requests (R158) and the owner-class rights (R143): the bays of a list one after another, the RESULT
from the refused ones, and each request that carries a bay list.
-/

namespace Sys2Proof.Machine

/-! ### The bays of a list -/

theorem takeBays_cons_bad {x : Byte} (h : 60 ≤ x.toNat) (act : BayId → State → State × Option Result)
    (xs : List Byte) (s : State) :
    takeBays act (x :: xs) s = ((takeBays act xs s).1, (x, .badValue) :: (takeBays act xs s).2) := by
  simp [takeBays, bayOf_of_ge h]

theorem takeBays_cons_ok {x : Byte} {b : BayId} (h : x.toNat = b.val) {act : BayId → State → State × Option Result}
    {s : State} (hact : (act b s).2 = none) (xs : List Byte) :
    takeBays act (x :: xs) s = takeBays act xs (act b s).1 := by
  simp [takeBays, bayOf_of_val h, hact]

theorem takeBays_cons_refused {x : Byte} {b : BayId} (h : x.toNat = b.val)
    {act : BayId → State → State × Option Result} {s : State} {c : Result} (hact : (act b s).2 = some c)
    (xs : List Byte) :
    takeBays act (x :: xs) s = ((takeBays act xs (act b s).1).1, (x, c) :: (takeBays act xs (act b s).1).2) := by
  simp [takeBays, bayOf_of_val h, hact]

theorem takeBays_sublist (act : BayId → State → State × Option Result) (bays : List Byte) (s : State) :
    ((takeBays act bays s).2.map Prod.fst).Sublist bays := by
  induction bays generalizing s with
  | nil => exact List.Sublist.refl _
  | cons x xs ih =>
    by_cases hx : x.toNat < 60
    · have hb : x.toNat = (⟨x.toNat, hx⟩ : BayId).val := rfl
      cases hact : (act ⟨x.toNat, hx⟩ s).2 with
      | none =>
        rw [takeBays_cons_ok hb hact]
        exact (ih _).cons x
      | some c =>
        rw [takeBays_cons_refused hb hact]
        exact (ih _).cons_cons x
    · rw [takeBays_cons_bad (Nat.not_lt.mp hx)]
      exact (ih s).cons_cons x

/-! ### The RESULT of a list (R158) -/

theorem listResult_partial {n : Nat} {refused : List (Byte × Result)} (hne : refused ≠ [])
    (hlt : refused.length < n) : listResult n refused = .partly := by
  cases refused with
  | nil => exact (hne rfl).elim
  | cons q rest =>
    have hn : rest.length + 1 ≠ n := by
      simp only [List.length_cons] at hlt
      omega
    simp [listResult, hn]

theorem listResult_common {n : Nat} {refused : List (Byte × Result)} {c : Result} (hne : refused ≠ [])
    (hlen : refused.length = n) (hall : ∀ q ∈ refused, q.2 = c) : listResult n refused = c := by
  cases refused with
  | nil => exact (hne rfl).elim
  | cons q rest =>
    obtain rfl : q.2 = c := hall q List.mem_cons_self
    have hrest : (rest.all fun r => r.2 = q.2) = true :=
      List.all_eq_true.mpr fun r hr => decide_eq_true (hall r (List.mem_cons_of_mem _ hr))
    simp only [List.length_cons] at hlen
    simp [listResult, hlen, hrest]

theorem listResult_mixed {n : Nat} {refused : List (Byte × Result)}
    (hmixed : ∃ q ∈ refused, ∃ r ∈ refused, q.2 ≠ r.2) : listResult n refused = .partly := by
  obtain ⟨q, hq, r, hr, hne⟩ := hmixed
  cases refused with
  | nil => exact (List.not_mem_nil hq).elim
  | cons first rest =>
    have hrest : ¬ (rest.all fun t => t.2 = first.2) = true := by
      intro hall
      have hsame : ∀ t ∈ first :: rest, t.2 = first.2 := fun t ht => by
        rcases List.mem_cons.mp ht with rfl | ht
        · rfl
        · exact of_decide_eq_true (List.all_eq_true.mp hall t ht)
      exact hne ((hsame q hq).trans (hsame r hr).symm)
    simp [listResult, hrest]

/-! ### Payloads with a bay list -/

theorem byte_toNat {n : Nat} (h : n < 256) : (byte n).toNat = n := by
  rw [byte, BitVec.toNat_ofNat]
  omega

theorem readBays_list {bays : List Byte} (hlo : 1 ≤ bays.length) (hhi : bays.length ≤ 16) (after : List Byte) :
    readBays after.length (byte bays.length :: (bays ++ after)) = some (bays, after) := by
  have hn : (byte bays.length).toNat = bays.length := byte_toNat (by omega)
  simp [readBays, hn, hlo, hhi]

theorem readBayList_list {bays : List Byte} (hlo : 1 ≤ bays.length) (hhi : bays.length ≤ 16) :
    readBayList (byte bays.length :: bays) = some bays := by
  have h := readBays_list hlo hhi []
  rw [List.append_nil, List.length_nil] at h
  rw [readBayList, h]
  rfl

/-- A request that carries a bay list alone takes its bays (R158). -/
theorem request_bays {p : Port} {s : State} (h : s.Taking p) {bays : List Byte} (hlo : 1 ≤ bays.length)
    (hhi : bays.length ≤ 16) (code : Nat) (tag : Byte) (act : BayId → State → State × Option Result) :
    request .anyPort code p tag (readBayList (byte bays.length :: bays)) (multiBay act) s
      = sendReply p code tag (multiBay act bays (hear p s)) := by
  rw [readBayList_list hlo hhi, request_anyPort h]

/-! ### SET BAY: the values (R12) -/

/-- A value SET BAY writes is out of range. -/
def setBayBad (m pr z sh be : Byte) : Prop :=
  (m.toNat.testBit 0 = true ∧ 8 ≤ pr.toNat) ∨ (m.toNat.testBit 1 = true ∧ 4 ≤ z.toNat)
    ∨ (m.toNat.testBit 3 = true ∧ 2 ≤ sh.toNat) ∨ (m.toNat.testBit 4 = true ∧ 2 ≤ be.toNat)

/-- What SET BAY writes. -/
def setBayWrite (m pr z l sh be : Byte) : BayWrite :=
  { profile := if m.toNat.testBit 0 = true then profileOf pr else none
    zone := if m.toNat.testBit 1 = true then fourOf z else none
    level := if m.toNat.testBit 2 = true then some ⟨min l.toNat 7, by omega⟩ else none
    sheddable := if m.toNat.testBit 3 = true then some (decide (sh = 1)) else none
    buttonEnabled := if m.toNat.testBit 4 = true then some (decide (be = 1)) else none }

/-- The bytes SET BAY answers for the values it writes. -/
def setBayStored (m pr z l sh be : Byte) : List Byte :=
  [if m.toNat.testBit 0 = true then pr else 0xFF, if m.toNat.testBit 1 = true then z else 0xFF,
    if m.toNat.testBit 2 = true then byte (min l.toNat 7) else 0xFF, if m.toNat.testBit 3 = true then sh else 0xFF,
    if m.toNat.testBit 4 = true then be else 0xFF]

/-- SET BAY as it is read. -/
def setBayArgs (bays : List Byte) (m pr z l sh be : Byte) : SetBayArgs :=
  { bays := bays, profile := present m.toNat 0 pr, zone := present m.toNat 1 z, level := present m.toNat 2 l,
    sheddable := present m.toNat 3 sh, buttonEnabled := present m.toNat 4 be }

theorem readSetBay_list {bays : List Byte} (hlo : 1 ≤ bays.length) (hhi : bays.length ≤ 16) {m : Byte}
    (hm : m.toNat % 32 ≠ 0) (pr z l sh be : Byte) :
    readSetBay (byte bays.length :: bays ++ [m, pr, z, l, sh, be]) = some (setBayArgs bays m pr z l sh be) := by
  have h := readBays_list hlo hhi [m, pr, z, l, sh, be]
  have hany : anyPresent m.toNat 5 = true := bne_iff_ne.mpr hm
  rw [readSetBay, List.cons_append]
  simp only [List.length_cons, List.length_nil, Nat.zero_add, Nat.reduceAdd] at h
  rw [h]
  simp only [hany, if_true]
  rfl

theorem known_present {α : Type} {f : Byte → Option α} {n : Nat} (hf : ∀ x : Byte, (f x).isSome = decide (x.toNat < n))
    (mask i : Nat) (x : Byte) : known f (present mask i x) = true ↔ ¬ (mask.testBit i = true ∧ n ≤ x.toNat) := by
  unfold present
  split
  · next h => simp [known, hf, h]
  · next h => simp [known, h]

theorem yesNoOfCode_isSome (x : Byte) : (yesNoOfCode x.toNat).isSome = decide (x.toNat < 2) := by
  generalize x.toNat = n
  rcases n with _ | _ | n <;> simp [yesNoOfCode]

theorem yesNoOfCode_of_lt {x : Byte} (h : x.toNat < 2) : yesNoOfCode x.toNat = some (decide (x = 1)) := by
  have hx : x = 0 ∨ x = 1 := by
    rcases Nat.lt_succ_iff_lt_or_eq.mp h with h | h
    · exact .inl (BitVec.eq_of_toNat_eq (by simpa using h))
    · exact .inr (BitVec.eq_of_toNat_eq (by simpa using h))
  rcases hx with rfl | rfl <;> rfl

theorem profileOf_isSome (x : Byte) : (profileOf x).isSome = decide (x.toNat < 8) := by
  unfold profileOf
  split <;> simp_all

theorem fourOf_isSome (x : Byte) : (fourOf x).isSome = decide (x.toNat < 4) := by
  unfold fourOf
  split <;> simp_all

theorem setBay_valid_iff (bays : List Byte) (m pr z l sh be : Byte) :
    (known profileOf (setBayArgs bays m pr z l sh be).profile && known fourOf (setBayArgs bays m pr z l sh be).zone
      && known (fun x : Byte => yesNoOfCode x.toNat) (setBayArgs bays m pr z l sh be).sheddable
      && known (fun x : Byte => yesNoOfCode x.toNat) (setBayArgs bays m pr z l sh be).buttonEnabled) = true
      ↔ ¬ setBayBad m pr z sh be := by
  simp only [setBayArgs, Bool.and_eq_true, known_present profileOf_isSome, known_present fourOf_isSome,
    known_present yesNoOfCode_isSome, setBayBad, not_or, and_assoc]

theorem check_bad {m pr z sh be : Byte} (h : setBayBad m pr z sh be) (bays : List Byte) (l : Byte) :
    (setBayArgs bays m pr z l sh be).check = none :=
  if_neg fun hv => (setBay_valid_iff bays m pr z l sh be).mp hv h

theorem bind_present {α : Type} (mask i : Nat) (x : Byte) (f : Byte → Option α) :
    (present mask i x).bind f = if mask.testBit i = true then f x else none := by
  unfold present
  split <;> rfl

theorem bind_yesNo {mask i : Nat} {x : Byte} (h : ¬ (mask.testBit i = true ∧ 2 ≤ x.toNat)) :
    (present mask i x).bind (fun x : Byte => yesNoOfCode x.toNat)
      = if mask.testBit i = true then some (decide (x = 1)) else none := by
  rw [bind_present]
  split
  · next hbit => exact yesNoOfCode_of_lt (Nat.not_le.mp fun hx => h ⟨hbit, hx⟩)
  · rfl

theorem check_good {m pr z sh be : Byte} (h : ¬ setBayBad m pr z sh be) (bays : List Byte) (l : Byte) :
    (setBayArgs bays m pr z l sh be).check = some (setBayWrite m pr z l sh be) := by
  refine (if_pos ((setBay_valid_iff bays m pr z l sh be).mpr h)).trans ?_
  obtain ⟨-, -, hsh, hbe⟩ := by simpa only [setBayBad, not_or] using h
  have hlevel : (present m.toNat 2 l).map (fun x => levelOf x.toNat)
      = if m.toNat.testBit 2 = true then some (⟨min l.toNat 7, by omega⟩ : Fin 8) else none := by
    unfold present
    split <;> rfl
  simp only [setBayArgs, bind_present, bind_yesNo hsh, bind_yesNo hbe, hlevel, setBayWrite]

theorem byte_of_toNat (x : Byte) : byte x.toNat = x := by
  simp [byte]

theorem setBay_block {m pr z sh be : Byte} (h : ¬ setBayBad m pr z sh be) (l : Byte) :
    (setBayWrite m pr z l sh be).block = setBayStored m pr z l sh be := by
  obtain ⟨hpr, hz, hsh, hbe⟩ := by simpa only [setBayBad, not_or] using h
  have hprofile : optByte ((setBayWrite m pr z l sh be).profile.map (·.val))
      = if m.toNat.testBit 0 = true then pr else 0xFF := by
    by_cases hbit : m.toNat.testBit 0 = true
    · have hlt : pr.toNat < 8 := Nat.not_le.mp fun hx => hpr ⟨hbit, hx⟩
      simp [setBayWrite, hbit, profileOf, hlt, optByte, byte_of_toNat]
    · simp [setBayWrite, hbit, optByte]
  have hzone : optByte ((setBayWrite m pr z l sh be).zone.map (·.val))
      = if m.toNat.testBit 1 = true then z else 0xFF := by
    by_cases hbit : m.toNat.testBit 1 = true
    · have hlt : z.toNat < 4 := Nat.not_le.mp fun hx => hz ⟨hbit, hx⟩
      simp [setBayWrite, hbit, fourOf, hlt, optByte, byte_of_toNat]
    · simp [setBayWrite, hbit, optByte]
  have hyes : ∀ {i : Nat} {x : Byte}, ¬ (m.toNat.testBit i = true ∧ 2 ≤ x.toNat) →
      optByte ((if m.toNat.testBit i = true then some (decide (x = 1)) else none).map boolNat)
        = if m.toNat.testBit i = true then x else 0xFF := by
    intro i x hx
    by_cases hbit : m.toNat.testBit i = true
    · have hlt : x.toNat < 2 := Nat.not_le.mp fun h => hx ⟨hbit, h⟩
      rw [if_pos hbit, if_pos hbit]
      rcases Nat.lt_succ_iff_lt_or_eq.mp hlt with h | h
      · obtain rfl : x = 0 := BitVec.eq_of_toNat_eq (by simpa using h)
        rfl
      · obtain rfl : x = 1 := BitVec.eq_of_toNat_eq (by simpa using h)
        rfl
    · rw [if_neg hbit, if_neg hbit]
      rfl
  have hlevel : optByte ((setBayWrite m pr z l sh be).level.map (·.val))
      = if m.toNat.testBit 2 = true then byte (min l.toNat 7) else 0xFF := by
    by_cases hbit : m.toNat.testBit 2 = true <;> simp [setBayWrite, hbit, optByte]
  simp only [BayWrite.block, hprofile, hzone, hlevel, setBayStored]
  rw [setBayWrite, hyes hsh, hyes hbe]

/-- SET BAY with a value out of range is refused whole (R12). -/
theorem setBay_refused {p : Port} {s : State} (h : s.Taking p) {bays : List Byte} (hlo : 1 ≤ bays.length)
    (hhi : bays.length ≤ 16) {m pr z sh be : Byte} (hm : m.toNat % 32 ≠ 0) (hbad : setBayBad m pr z sh be)
    (tag l : Byte) : Answers (.setBay p tag (byte bays.length :: bays ++ [m, pr, z, l, sh, be])) s p 0x16 tag
      .badValue [] (hear p s) := by
  refine answers_anyPort h rfl (readSetBay_list hlo hhi hm pr z l sh be) ?_
  rw [setBayAct, check_bad hbad]
  rfl

/-- SET BAY with values in range takes its bays, and answers the values too (R12, R158). -/
theorem setBay_taken {p : Port} {s : State} (h : s.Taking p) {bays : List Byte} (hlo : 1 ≤ bays.length)
    (hhi : bays.length ≤ 16) {m pr z sh be : Byte} (hm : m.toNat % 32 ≠ 0) (hgood : ¬ setBayBad m pr z sh be)
    (tag l : Byte) : Answers (.setBay p tag (byte bays.length :: bays ++ [m, pr, z, l, sh, be])) s p 0x16 tag
      (multiBay (owned p (writeBay (setBayWrite m pr z l sh be))) bays (hear p s)).result
      ((multiBay (owned p (writeBay (setBayWrite m pr z l sh be))) bays (hear p s)).payload
        ++ setBayStored m pr z l sh be)
      (multiBay (owned p (writeBay (setBayWrite m pr z l sh be))) bays (hear p s)).state := by
  refine answers_anyPort h rfl (readSetBay_list hlo hhi hm pr z l sh be) ?_
  rw [setBayAct, check_good hgood, ← setBay_block hgood]
  rfl

/-! ### Indications -/

theorem indSetOf_nonempty (i : Byte) : (indSetOf i).nonempty = true ↔ i.toNat % 32 ≠ 0 := by
  revert i
  decide

theorem readSetIndication_list {bays : List Byte} (hlo : 1 ≤ bays.length) (hhi : bays.length ≤ 16) (i d0 d1 : Byte) :
    readSetIndication (byte bays.length :: bays ++ [i, d0, d1]) = some (bays, indSetOf i, readLe16 d0 d1) := by
  have h := readBays_list hlo hhi [i, d0, d1]
  simp only [List.length_cons, List.length_nil, Nat.zero_add, Nat.reduceAdd] at h
  rw [readSetIndication, List.cons_append, h]

theorem readClearIndication_list {bays : List Byte} (hlo : 1 ≤ bays.length) (hhi : bays.length ≤ 16) (i : Byte) :
    readClearIndication (byte bays.length :: bays ++ [i]) = some (bays, indSetOf i) := by
  have h := readBays_list hlo hhi [i]
  simp only [List.length_cons, List.length_nil, Nat.zero_add] at h
  rw [readClearIndication, List.cons_append, h]

/-! ### The statements -/

/-- Settles O12: the bays of a list by the recursion over it, each request by its reader. -/
theorem multiBayRequests : Obligations.MultiBayRequests := by
  refine ⟨fun act x xs bays s => ⟨rfl, fun hx => takeBays_cons_bad hx .., fun b hx hact => takeBays_cons_ok hx hact xs,
    fun b c hx hact => takeBays_cons_refused hx hact xs, _, rfl, takeBays_sublist act bays s, rfl, rfl,
    fun h => ?_, fun hne hlt => listResult_partial hne hlt, fun c hne hlen hall => listResult_common hne hlen hall,
    fun _ hmixed => listResult_mixed hmixed⟩,
    fun p tag bays s h hlo hhi => ?_, fun p tag m pr z l sh be i d0 d1 bays s h hlo hhi => ?_⟩
  · rw [multiBay, h]
    rfl
  · have htaken := fun code act => congrArg (Host.Outcome.next (φ := Fault) (ρ := Refusal))
      (request_bays h hlo hhi code tag act)
    exact ⟨htaken _ _, htaken _ _, htaken _ _, htaken _ _, htaken _ _, htaken _ _, htaken _ _, htaken _ _⟩
  · refine ⟨fun hm hbad => setBay_refused h hlo hhi hm hbad tag l, fun hm hgood => setBay_taken h hlo hhi hm hgood tag l,
      fun hi => ⟨?_, ?_⟩, fun hi => ⟨?_, ?_⟩⟩
    · have hempty : ¬ (indSetOf i).nonempty = true := fun hn => (indSetOf_nonempty i).mp hn hi
      refine answers_anyPort h rfl (readSetIndication_list hlo hhi i d0 d1) ?_
      rw [setIndicationAct, if_neg hempty, refuse]
    · have hempty : ¬ (indSetOf i).nonempty = true := fun hn => (indSetOf_nonempty i).mp hn hi
      refine answers_anyPort h rfl (readClearIndication_list hlo hhi i) ?_
      rw [clearIndicationAct, if_neg hempty, refuse]
    · have hnamed : (indSetOf i).nonempty = true := (indSetOf_nonempty i).mpr hi
      refine answers_anyPort h rfl (readSetIndication_list hlo hhi i d0 d1) ?_
      rw [setIndicationAct, if_pos hnamed]
      rfl
    · have hnamed : (indSetOf i).nonempty = true := (indSetOf_nonempty i).mpr hi
      refine answers_anyPort h rfl (readClearIndication_list hlo hhi i) ?_
      rw [clearIndicationAct, if_pos hnamed]
      rfl

/-! ### Rights -/

theorem mayAct_iff (s : State) (p : Port) (b : BayId) :
    s.mayAct p b = true ↔ (s.bay b).owner = some p ∨ ((s.bay b).owner = none ∧ s.controlling = p) := by
  unfold State.mayAct
  cases (s.bay b).owner <;> simp

theorem owned_refused {s : State} {p : Port} {b : BayId} (h : s.mayAct p b = false)
    (act : BayId → State → State × Option Result) : owned p act b s = (s, some .notOwner) := by
  simp [owned, h]

theorem peer_ne (p : Port) : p.peer ≠ p := by
  cases p <;> decide

theorem mayAct_peer {s : State} {p : Port} {b : BayId}
    (h : (s.bay b).owner = some p.peer ∨ ((s.bay b).owner = none ∧ s.controlling = p.peer)) :
    s.mayAct p b = false := by
  unfold State.mayAct
  rcases h with hown | ⟨hown, hrole⟩
  · rw [hown]
    exact decide_eq_false (peer_ne p)
  · rw [hown, hrole]
    exact decide_eq_false (peer_ne p)

/-- A list of one bay whose number is out of range is refused for it (R158). -/
theorem multiBay_badValue {x : Byte} (h : 60 ≤ x.toNat) (act : BayId → State → State × Option Result) (s : State) :
    multiBay act [x] s = { state := s, result := .badValue, payload := [1, x, byte Result.badValue.code] } := by
  simp only [multiBay, takeBays_cons_bad h]
  rfl

/-- Requests that carry one bay, whose action comes to a refusal of it. -/
theorem request_oneRefused {p : Port} {s : State} (h : s.Taking p) {x : Byte} {r : Result}
    {act : BayId → State → State × Option Result}
    (hact : multiBay act [x] (hear p s) = { state := hear p s, result := r, payload := [1, x, byte r.code] })
    (code : Nat) (tag : Byte) : request .anyPort code p tag (readBayList [1, x]) (multiBay act) s
      = sendReply p code tag { state := hear p s, result := r, payload := [1, x, byte r.code] } :=
  (request_bays h (bays := [x]) (by simp) (by simp) code tag act).trans (by rw [hact])

/-- The seven owner-class requests on one bay `k` are answered `r` and change nothing where their actions come to that
refusal. -/
theorem ownerClass_oneRefused {p : Port} {s : State} (h : s.Taking p) {k : Byte} {r : Result}
    (hact : ∀ act, multiBay (owned p act) [k] (hear p s)
      = { state := hear p s, result := r, payload := [1, k, byte r.code] }) (tag m pr z l sh be : Byte) :
    Answers (.powerOn p tag [1, k]) s p 0x10 tag r [1, k, byte r.code] (hear p s)
    ∧ Answers (.powerOff p tag [1, k]) s p 0x11 tag r [1, k, byte r.code] (hear p s)
    ∧ Answers (.prepareRemoval p tag [1, k]) s p 0x12 tag r [1, k, byte r.code] (hear p s)
    ∧ Answers (.cancelRemoval p tag [1, k]) s p 0x13 tag r [1, k, byte r.code] (hear p s)
    ∧ Answers (.clearFault p tag [1, k]) s p 0x14 tag r [1, k, byte r.code] (hear p s)
    ∧ Answers (.declineAttention p tag [1, k]) s p 0x15 tag r [1, k, byte r.code] (hear p s)
    ∧ (m.toNat % 32 ≠ 0 ∧ ¬ setBayBad m pr z sh be →
        Answers (.setBay p tag [1, k, m, pr, z, l, sh, be]) s p 0x16 tag r
          ([1, k, byte r.code] ++ setBayStored m pr z l sh be) (hear p s)) := by
  have hone := fun code act => congrArg (Host.Outcome.next (φ := Fault) (ρ := Refusal))
    (request_oneRefused h (hact act) code tag)
  refine ⟨hone _ _, hone _ _, hone _ _, hone _ _, hone _ _, hone _ _, fun ⟨hm, hgood⟩ => ?_⟩
  have htaken := setBay_taken h (bays := [k]) (by simp) (by simp) hm hgood tag l
  rw [hact] at htaken
  exact htaken

/-- Settles O13: the rights come before the bay's state, and the range of its number before the rights. -/
theorem ownerClassRights : Obligations.OwnerClassRights := by
  intro p tag m pr z l sh be b x s h
  refine ⟨mayAct_iff s p b, fun hpeer => ?_, fun hx => ?_⟩
  · exact ownerClass_oneRefused h (fun act => multiBay_refuses (owned_refused (mayAct_peer (s := hear p s) hpeer) act)) tag m pr z l sh be
  · exact ownerClass_oneRefused h (fun act => multiBay_badValue hx ..) tag m pr z l sh be

end Sys2Proof.Machine

/-!
PROOF. The spin-up queue and admission (R30, R32–R40): places, the shut gate, the candidate of either mode, one
admission after another, and the budget they keep.
-/

namespace Sys2Proof.Machine

/-! ### Places and the gate (R30, R33) -/

theorem insertEnd_places (e : Entry) (q : List Entry) : insertEnd e q
    = q.takeWhile (fun x => !decide (e.level < x.level)) ++ e :: q.dropWhile (fun x => !decide (e.level < x.level)) := by
  have hle : (fun x : Entry => decide (x.level ≤ e.level)) = fun x => !decide (e.level < x.level) := by
    funext x
    rw [← decide_not, decide_eq_decide]
    exact Fin.not_lt.symm
  rw [insertEnd_eq, hle]

theorem gateOpen_eq_false {s : State}
    (h : s.settings.scheduler.startCap ≤ ((List.finRange 60).filter fun b => (s.bay b).state = .starting).length
      ∨ s.gap.isSome ∨ (∃ r, s.store = .loading r) ∨ s.overBudget = true) : s.gateOpen = false := by
  rcases h with hcap | hgap | ⟨r, hload⟩ | hover
  · have hcount : ¬ s.countIn .starting < s.settings.scheduler.startCap := by
      rw [State.countIn, List.countP_eq_length_filter]
      exact Nat.not_lt.mpr hcap
    simp [State.gateOpen, hcount]
  · exact gateOpen_of_gap hgap
  · simp [State.gateOpen, State.loading, hload, SettingsState.isLoading]
  · simp [State.gateOpen, hover]

theorem gapEnd_running {s : State} (h : s.gap.isSome) : gapEnd s = opportunity { s with gap := none } :=
  if_pos h

theorem gapEnd_idle {s : State} (h : s.gap = none) : gapEnd s = s := by
  simp [gapEnd, h]

/-- Settles O24: the places by what either insertion leaves, the shut gate by each of its bars. -/
theorem queuePlacesAndShutGate : Obligations.QueuePlacesAndShutGate := by
  refine ⟨fun e q => ⟨fun h => ?_, fun h => ?_, insertEntry_sorted⟩,
    fun s => ⟨fun hrun hgap => ?_, fun hrun hgap => ?_, fun h => opportunity_of_shut (gateOpen_eq_false h)⟩⟩
  · rw [insertEntry, if_neg h, insertEnd_places]
  · rw [insertEntry, if_pos h, insertFront_eq]
  · exact congrArg Host.Outcome.next ((event_running hrun).trans (gapEnd_running hgap))
  · exact congrArg Host.Outcome.next ((event_running hrun).trans (gapEnd_idle hgap))

/-! ### One admission and the next (R39) -/

theorem candidate_shrinks {s : State} {e : Entry} {r : List Entry} (h : s.candidate = some (e, r)) :
    r.length < s.queue.length := by
  have hsole : ∀ cond, chooseSole s cond = some (e, r) → r.length < s.queue.length := fun cond hc => by
    obtain ⟨hmem, -, -, rfl⟩ := chooseSole_spec hc
    exact List.length_filter_lt_length_iff_exists.mpr ⟨e, hmem, by simp⟩
  unfold State.candidate at h
  split at h
  · exact hsole _ h
  · split at h
    · exact hsole _ h
    · obtain ⟨before, after, hq, rfl, -⟩ := scanFill_eq_some h
      simp only [hq, List.length_append, List.length_map, List.length_cons]
      omega

theorem admitOne_shrinks {s t : State} (h : admitOne s = some t) : t.queue.length < s.queue.length := by
  obtain ⟨e, r, -, hc, -, -, -, ht⟩ := admitOne_cases h
  rw [ht, startBay_queue]
  exact candidate_shrinks hc

/-- Fuel beyond the length of the queue changes nothing: each admission takes an entry. -/
theorem admitAll_enough {s : State} {n : Nat} (h : s.queue.length ≤ n) : admitAll n s = opportunity s := by
  have hfuel : ∀ n m (s : State), s.queue.length ≤ n → s.queue.length ≤ m → admitAll n s = admitAll m s := by
    intro n
    induction n with
    | zero =>
      intro m s hn _
      cases m with
      | zero => rfl
      | succ m =>
        cases hone : admitOne s with
        | none => simp [admitAll, hone]
        | some t => exact absurd (admitOne_shrinks hone) (by omega)
    | succ n ih =>
      intro m s hn hm
      cases hone : admitOne s with
      | none => cases m <;> simp [admitAll, hone]
      | some t =>
        have hlt := admitOne_shrinks hone
        cases m with
        | zero => omega
        | succ m =>
          simp only [admitAll, hone]
          exact ih m t (by omega) (by omega)
  exact hfuel n _ s h le_rfl

theorem opportunity_of_none {s : State} (h : admitOne s = none) : opportunity s = s := by
  rw [opportunity]
  cases s.queue.length <;> simp [admitAll, h]

theorem opportunity_of_some {s t : State} (h : admitOne s = some t) : opportunity s = opportunity t := by
  have hlt := admitOne_shrinks h
  rw [opportunity]
  obtain ⟨n, hn⟩ := Nat.exists_eq_add_of_lt (Nat.zero_lt_of_lt hlt)
  rw [hn, Nat.zero_add, admitAll, h]
  exact admitAll_enough (by omega)

/-- After an opportunity no further one would change anything (R39). -/
theorem opportunity_idem (s : State) : opportunity (opportunity s) = opportunity s := by
  generalize hn : s.queue.length = n
  induction n using Nat.strong_induction_on generalizing s with
  | _ n ih =>
    cases hone : admitOne s with
    | none => rw [opportunity_of_none hone, opportunity_of_none hone]
    | some t =>
      rw [opportunity_of_some hone]
      exact ih _ (hn ▸ admitOne_shrinks hone) t rfl

theorem admitOne_of_candidate {s : State} (hgate : s.gateOpen = true) {e : Entry} {q : List Entry}
    (h : s.candidate = some (e, q)) : admitOne s = some (startBay e.bay q s) := by
  rw [admitOne, if_pos hgate, h]
  rfl

theorem admitOne_of_no_candidate {s : State} (h : s.candidate = none) : admitOne s = none := by
  simp [admitOne, h]

/-- An admission as R38 and R39 write it. -/
theorem startBay_eq (b : BayId) (q : List Entry) (s : State) : startBay b q s
    = recompute { changeBay b (fun y => { y with
        state := .starting, lastEvent := .admitted, switch := true, attempts := y.attempts + 1
        timer := .surge ((s.profile b).surgeTime * 100) }) { s with queue := q } with
      gap := if s.settings.scheduler.gap = 0 then none else some (s.settings.scheduler.gap * 100) } := by
  simp only [startBay, changeBay_settings]
  rfl

/-! ### The candidate (R35–R37) -/

theorem find?_first {q before after : List Entry} {e : Entry} {cond : Entry → Bool} (hq : q = before ++ e :: after)
    (he : cond e = true) (hbefore : ∀ x ∈ before, ¬ cond x = true) : q.find? cond = some e := by
  rw [List.find?_eq_some_iff_append]
  exact ⟨he, before, after, hq, fun x hx => by simpa using hbefore x hx⟩

theorem scanFill_none {s : State} {q : List Entry} (h : ∀ e ∈ q, ¬ (s.eligible e = true ∧ s.fits e = true)) :
    scanFill s q = none := by
  induction q with
  | nil => rfl
  | cons x q ih =>
    have hx : ¬ (s.eligible x && s.fits x) = true := by simpa using h x List.mem_cons_self
    rw [scanFill, if_neg hx, ih fun e he => h e (List.mem_cons_of_mem x he)]
    rfl

theorem scanFill_first {s : State} {before after : List Entry} {e : Entry} (he : s.eligible e = true)
    (hfit : s.fits e = true) (hbefore : ∀ x ∈ before, ¬ (s.eligible x = true ∧ s.fits x = true)) :
    scanFill s (before ++ e :: after) = some (e, before.map (passOver s) ++ after) := by
  induction before with
  | nil => simp [scanFill, he, hfit]
  | cons x before ih =>
    have hx : ¬ (s.eligible x && s.fits x) = true := by simpa using hbefore x List.mem_cons_self
    rw [List.cons_append, scanFill, if_neg hx, ih fun y hy => hbefore y (List.mem_cons_of_mem x hy)]
    rfl

theorem candidate_strict {s : State} (h : s.settings.scheduler.mode = .strict) :
    s.candidate = chooseSole s s.eligible := by
  simp [State.candidate, h]

theorem candidate_fill {s : State} (h : s.settings.scheduler.mode = .fill) :
    s.candidate = if s.guardEngaged then chooseSole s s.starved else scanFill s s.queue := by
  simp [State.candidate, h]

theorem chooseSole_of_find {s : State} {cond : Entry → Bool} {e : Entry} (h : s.queue.find? cond = some e) :
    chooseSole s cond = if s.fits e then some (e, s.queue.filter fun x => x.bay ≠ e.bay) else none := by
  simp only [chooseSole, h]
  rfl

theorem fits_iff (s : State) (e : Entry) : s.fits e = true ↔ ((s.profile e.bay).surge : Int) ≤ s.totals.headroom :=
  decide_eq_true_iff

/-- Settles O25: the candidate of each mode, and an admission as the first of an opportunity. -/
theorem admissionByMode : Obligations.AdmissionByMode := by
  refine ⟨fun s hgate hmode => ⟨fun hnone => ?_, fun e he hover => ?_, fun e he hfit => ?_⟩,
    fun s hmode => ⟨fun hlimit => ⟨fun hnone => ?_, fun before e after hq hfree hfit hbefore => ?_⟩,
      fun before e after hq hfree hlim hbefore => ?_⟩,
    fun s hgate _ => ⟨fun hnone => opportunity_of_none (admitOne_of_no_candidate hnone), fun e q hc => ?_⟩⟩
  · have hfind : s.queue.find? s.eligible = none := hnone
    exact opportunity_of_none (admitOne_of_no_candidate (by rw [candidate_strict hmode, chooseSole, hfind]))
  · have hfits : ¬ s.fits e = true := fun h => absurd ((fits_iff s e).mp h) (not_le.mpr hover)
    have hfind : s.queue.find? s.eligible = some e := he
    have hc : s.candidate = none := by rw [candidate_strict hmode, chooseSole_of_find hfind, if_neg hfits]
    exact opportunity_of_none (admitOne_of_no_candidate hc)
  · have hfind : s.queue.find? s.eligible = some e := he
    have hc : s.candidate = some (e, s.queue.filter fun x => x.bay ≠ e.bay) := by
      rw [candidate_strict hmode, chooseSole_of_find hfind, if_pos ((fits_iff s e).mpr hfit)]
    rw [opportunity_of_some (admitOne_of_candidate hgate hc), startBay_eq]
  · have hguard : s.guardEngaged = false := by
      simp only [State.guardEngaged, Bool.and_eq_false_iff, List.any_eq_false]
      exact .inr fun e he => by
        by_cases hf : s.eligible e = true
        · simpa [State.starved, hf] using hlimit e he hf
        · simp [State.starved, hf]
    rw [candidate_fill hmode, hguard]
    exact scanFill_none fun e he h => hnone e he ⟨h.1, h.2⟩
  · have hguard : s.guardEngaged = false := by
      simp only [State.guardEngaged, Bool.and_eq_false_iff, List.any_eq_false]
      exact .inr fun e he => by
        by_cases hf : s.eligible e = true
        · simpa [State.starved, hf] using hlimit e he hf
        · simp [State.starved, hf]
    rw [candidate_fill hmode, hguard, hq]
    exact scanFill_first hfree hfit fun x hx h => hbefore x hx ⟨h.1, h.2⟩
  · have hstarved : s.starved e = true := by
      rw [State.starved, show s.eligible e = true from hfree]
      exact hlim
    have hguard : s.guardEngaged = true := by
      simp only [State.guardEngaged, hmode, decide_true, Bool.true_and, List.any_eq_true]
      exact ⟨e, by simp [hq], hstarved⟩
    have hfind : s.queue.find? s.starved = some e := find?_first hq hstarved fun x hx h =>
      hbefore x hx ((Bool.and_eq_true _ _).mp h)
    rw [candidate_fill hmode, if_pos hguard, chooseSole_of_find hfind]
    exact ⟨fun hfit => if_pos hfit, fun hfit => if_neg (Bool.eq_false_iff.mp hfit)⟩
  · rw [opportunity_of_some (admitOne_of_candidate hgate hc), startBay_eq]

/-! ### The budget (R40, R60) -/

theorem gross_congr {s t : State} (hset : t.settings = s.settings) (hsup : t.supplies = s.supplies) :
    t.gross = s.gross := by
  have hgood : t.supplyGood = s.supplyGood := by
    funext i
    rw [State.supplyGood, State.supplyGood, hset, hsup]
  simp only [State.gross, State.goodSupplies, hgood, hset] <;> rfl

theorem fanPower_congr {s t : State} (hset : t.settings = s.settings) (hzones : t.zones = s.zones) :
    t.fanPower = s.fanPower := by
  have hshare : t.fanShare = s.fanShare := by
    funext z
    simp only [State.fanShare, State.zoneCfg, State.zone, hset, hzones]
  rw [State.fanPower, State.fanPower, hshare]

theorem committed_congr {s t : State} (hset : t.settings = s.settings) (hbays : t.bays = s.bays) :
    t.committed = s.committed := by
  have hres : t.reservation = s.reservation := by
    funext b
    simp only [State.reservation, State.profile, State.bay, hset, hbays]
  rw [State.committed, State.committed, hres]

/-- The allowance follows from settings, supplies and zones alone (R55–R58). -/
theorem allowance_congr {s t : State} (hset : t.settings = s.settings) (hsup : t.supplies = s.supplies)
    (hzones : t.zones = s.zones) : t.computeTotals.allowance = s.computeTotals.allowance := by
  simp only [State.computeTotals, gross_congr hset hsup, fanPower_congr hset hzones, hset]

theorem computeTotals_congr {s t : State} (hset : t.settings = s.settings) (hsup : t.supplies = s.supplies)
    (hzones : t.zones = s.zones) (hbays : t.bays = s.bays) : t.computeTotals = s.computeTotals := by
  simp only [State.computeTotals, gross_congr hset hsup, fanPower_congr hset hzones, committed_congr hset hbays, hset]

/-- A sum over a list without repeats in which one term alone differs. -/
theorem sum_map_update {l : List BayId} (hl : l.Nodup) {b : BayId} (hb : b ∈ l) {f g : BayId → Nat}
    (h : ∀ c, c ≠ b → f c = g c) : (l.map f).sum + g b = (l.map g).sum + f b := by
  induction l with
  | nil => exact (List.not_mem_nil hb).elim
  | cons c l ih =>
    obtain ⟨hc, hl⟩ := List.nodup_cons.mp hl
    simp only [List.map_cons, List.sum_cons]
    rcases List.mem_cons.mp hb with rfl | hb
    · have hsame : l.map f = l.map g := List.map_congr_left fun d hd => h d fun hdb => hc (hdb ▸ hd)
      rw [hsame]
      omega
    · have hcb : c ≠ b := fun hcb => hc (hcb ▸ hb)
      rw [h c hcb]
      have := ih hl hb
      omega

theorem countP_update {l : List BayId} (hl : l.Nodup) {b : BayId} {f g : BayId → Bool}
    (h : ∀ c, c ≠ b → f c = g c) : l.countP f ≤ l.countP g + 1 := by
  induction l with
  | nil => simp
  | cons c l ih =>
    obtain ⟨hc, hl⟩ := List.nodup_cons.mp hl
    by_cases hcb : c = b
    · have hsame : l.countP f = l.countP g := List.countP_congr fun d hd => by
        rw [h d fun hdb => hc (hcb ▸ hdb ▸ hd)]
      simp only [List.countP_cons, hsame]
      split <;> split <;> omega
    · simp only [List.countP_cons, h c hcb]
      have := ih hl
      omega

/-- What an opportunity from `s` has come to at `u`. -/
structure State.AdmittedTo (s u : State) : Prop where
  queue : u.QueueOk
  settings : u.settings = s.settings
  totals : u.totals = u.computeTotals
  allowance : u.totals.allowance = s.totals.allowance
  committed : s.totals.committed ≤ s.totals.allowance → u.totals.committed ≤ u.totals.allowance
  starting : u.countIn .starting ≤ max (s.countIn .starting) s.settings.scheduler.startCap
  others : ∀ b, (s.bay b).state ≠ .queued → u.bay b = s.bay b

theorem startBay_supplies_zones (b : BayId) (q : List Entry) (s : State) :
    (startBay b q s).supplies = s.supplies ∧ (startBay b q s).zones = s.zones := by
  obtain ⟨gap, totals, total, lost, shed, ps, pl, h⟩ := startBay_frame b q s
  constructor <;> rw [h]

theorem recompute_settings (s : State) : (recompute s).settings = s.settings := by
  obtain ⟨ps, h⟩ := recompute_frame s
  rw [h]

theorem recompute_supplies (s : State) : (recompute s).supplies = s.supplies := by
  obtain ⟨ps, h⟩ := recompute_frame s
  rw [h]

theorem recompute_zones (s : State) : (recompute s).zones = s.zones := by
  obtain ⟨ps, h⟩ := recompute_frame s
  rw [h]

theorem computeTotals_recompute (s : State) : (recompute s).computeTotals = s.computeTotals :=
  computeTotals_congr (recompute_settings s) (recompute_supplies s) (recompute_zones s) (recompute_bays s)

theorem startBay_totals (b : BayId) (q : List Entry) (s : State) :
    (startBay b q s).totals = (startBay b q s).computeTotals := by
  rw [startBay_eq, recompute_totals, computeTotals_recompute]

theorem reservation_starting {s : State} {b : BayId} (h : (s.bay b).state = .starting) :
    s.reservation b = (s.profile b).surge := by
  rw [State.reservation, h]

theorem reservation_queued {s : State} {b : BayId} (h : (s.bay b).state = .queued) : s.reservation b = 0 := by
  rw [State.reservation, h]

theorem reservation_congr {s t : State} {b : BayId} (hset : t.settings = s.settings) (hbay : t.bay b = s.bay b) :
    t.reservation b = s.reservation b := by
  simp only [State.reservation, State.profile, hset, hbay]

theorem profile_congr {s t : State} {b : BayId} (hset : t.settings = s.settings)
    (hbay : (t.bay b).profile = (s.bay b).profile) : t.profile b = s.profile b := by
  simp only [State.profile, hset, hbay]

theorem startBay_bay_same (b : BayId) (q : List Entry) (s : State) :
    (startBay b q s).bay b = Bay.started (s.profile b).surgeTime (s.bay b) := by
  rw [startBay_bay, if_pos rfl]

theorem startBay_bay_ne {b c : BayId} (h : c ≠ b) (q : List Entry) (s : State) :
    (startBay b q s).bay c = s.bay c := by
  rw [startBay_bay, if_neg h]

/-- An admission raises the committed draw by the surge draw it reserves (R38, R59). -/
theorem startBay_committed {b : BayId} {s : State} (h : (s.bay b).state = .queued) (q : List Entry) :
    (startBay b q s).committed = s.committed + (s.profile b).surge := by
  have hbay := startBay_bay_same b q s
  have hset := startBay_settings b q s
  have hother := fun c (hc : c ≠ b) => reservation_congr (b := c) hset (startBay_bay_ne hc q s)
  generalize startBay b q s = t at hbay hset hother
  have hres : t.reservation b = (s.profile b).surge := by
    rw [reservation_starting (by rw [hbay, Bay.started]), profile_congr hset (by rw [hbay, Bay.started])]
  have hsum := sum_map_update nodup_allBays (mem_allBays b) hother
  rw [hres, reservation_queued h, Nat.add_zero] at hsum
  rw [State.committed, State.committed, hsum]

theorem admittedTo_step {s u t : State} (hu : s.AdmittedTo u) (h : admitOne u = some t) : s.AdmittedTo t := by
  obtain ⟨e, r, hgate, hc, hmem, -, hfits, ht⟩ := admitOne_cases h
  have hqueued : (u.bay e.bay).state = .queued := hu.queue.state_of_mem hmem
  obtain ⟨hsup, hzones⟩ := startBay_supplies_zones e.bay r u
  have hallow : t.totals.allowance = u.totals.allowance := by
    rw [ht, startBay_totals, hu.totals]
    exact allowance_congr (startBay_settings ..) hsup hzones
  refine ⟨admitOne_queueOk hu.queue h, ?_, ?_, hallow.trans hu.allowance, fun _ => ?_, ?_, fun b hb => ?_⟩
  · rw [ht, startBay_settings, hu.settings]
  · rw [ht, startBay_totals]
  · have hfit := (fits_iff u e).mp hfits
    have hhead : u.totals.headroom = (u.totals.allowance : Int) - (u.totals.committed : Int) := by
      rw [hu.totals]
      rfl
    have hcom : t.totals.committed = u.totals.committed + (u.profile e.bay).surge := by
      rw [ht, startBay_totals, hu.totals]
      exact startBay_committed hqueued r
    omega
  · have hlt : u.countIn .starting < u.settings.scheduler.startCap := by
      simp only [State.gateOpen, Bool.and_eq_true, decide_eq_true_eq] at hgate
      exact hgate.1.1.1
    have hle : t.countIn .starting ≤ u.countIn .starting + 1 := by
      rw [ht]
      refine countP_update nodup_allBays (b := e.bay) fun c hc => ?_
      rw [startBay_bay_ne hc]
    rw [hu.settings] at hlt
    omega
  · have hne : b ≠ e.bay := fun hbe => hb (by rw [← hu.others b hb, hbe, hqueued])
    rw [ht, startBay_bay, if_neg hne, hu.others b hb]

/-- Settles O26: each admission of the opportunity keeps the start cap and the headroom. -/
theorem opportunityKeepsTheBudget : Obligations.OpportunityKeepsTheBudget := by
  intro s hqueue hledger
  have hstart : s.AdmittedTo s := ⟨hqueue, rfl, hledger.1, rfl, id, le_max_left _ _, fun _ _ => rfl⟩
  obtain ⟨-, -, -, hallow, hcom, hcount, hothers⟩ := opportunity_keeps (fun _ _ => admittedTo_step) hstart
  refine ⟨hcom, hallow, ?_, hothers⟩
  simpa only [State.countIn, List.countP_eq_length_filter, allBays] using hcount

end Sys2Proof.Machine

/-!
PROOF. A change of a bay record (R3): its posting, and what the Plan Engine's review makes of it (R132, R133, R137).
-/

namespace Sys2Proof.Machine

/-! ### Postings -/

theorem post_ports (o : Obj) (s : State) : post o s = { s with ports := (post o s).ports } := rfl

/-- The object stands in the port's list, and its attention output is asserted (R159, R160). -/
def PortState.Holds (o : Obj) (x : PortState) : Prop := o ∈ x.changes ∧ x.attention = true

theorem post_holds (o q : Obj) (x : PortState) (h : x.Holds o) : (x.post q).Holds o := by
  refine ⟨?_, rfl⟩
  unfold PortState.post
  dsimp only
  split
  · exact h.1
  · exact List.mem_append_left _ h.1

/-- A posted object stands in both lists, and both attention outputs are asserted (R159, R160). -/
theorem post_both (o : Obj) (s : State) : (post o s).Both (PortState.Holds o) :=
  ⟨⟨mem_changes_post o _, rfl⟩, ⟨mem_changes_post o _, rfl⟩⟩

/-! ### The review (R132, R133, R137) -/

/-- The plan when bay `b` of its pending set, with record `y`, has been reviewed (R132). -/
def Plan.departed (b : BayId) (y : Bay) (pl : Plan) : Plan :=
  if y.staysPending then pl else { pl with
    pendingSet := pl.pendingSet.erase b
    lost := if y.state = .ready then pl.lost else min (pl.lost + 1) 60 }

theorem depart_eq (b : BayId) (s : State) : depart b s = { s with plan := s.plan.departed b (s.bay b) } := by
  unfold depart Plan.departed
  split <;> rfl

/-- A review changes the pending set and the lost count alone. -/
theorem departed_only (b : BayId) (y : Bay) (pl : Plan) :
    pl.departed b y = { pl with pendingSet := (pl.departed b y).pendingSet, lost := (pl.departed b y).lost } := by
  unfold Plan.departed
  split <;> rfl

theorem departed_engine (b : BayId) (y : Bay) (pl : Plan) : (pl.departed b y).engine = pl.engine := by
  rw [departed_only]

theorem departed_inProgress (b : BayId) (y : Bay) (pl : Plan) : (pl.departed b y).inProgress = pl.inProgress := by
  rw [departed_only]

theorem departed_current (b : BayId) (y : Bay) (pl : Plan) : (pl.departed b y).current = pl.current := by
  rw [departed_only]

theorem departed_steps (b : BayId) (y : Bay) (pl : Plan) : (pl.departed b y).steps = pl.steps := by
  rw [departed_only]

theorem departed_notified (b : BayId) (y : Bay) (pl : Plan) : (pl.departed b y).notified = pl.notified := by
  rw [departed_only]

theorem departed_of_stays {b : BayId} {y : Bay} {pl : Plan} (h : y.staysPending = true) : pl.departed b y = pl :=
  if_pos h

/-- A RUNNING WAIT_SETTLED step finds the pending set empty (R133). -/
def Plan.Settled (pl : Plan) : Prop :=
  pl.engine = .running ∧ pl.inProgress = true ∧ pl.pendingSet = []
  ∧ (pl.current.map fun i => (pl.steps.get i).action) = some .waitSettled

/-- An abort finds no bay of its set STARTING with origin PLAN (R137). -/
def State.Aborted (s : State) (pl : Plan) : Prop :=
  pl.engine = .aborting ∧ ∀ c ∈ pl.pendingSet, ¬ ((s.bay c).state = .starting ∧ (s.bay c).origin = some .plan)

theorem settled_iff (pl : Plan) :
    (pl.engine = .running && pl.awaitsSettled && pl.pendingSet.isEmpty) = true ↔ pl.Settled := by
  have hstep : pl.currentStep.map (·.action) = pl.current.map fun i => (pl.steps.get i).action := by
    cases h : pl.current <;> simp [Plan.currentStep, h]
  simp only [Plan.awaitsSettled, hstep, Bool.and_eq_true, decide_eq_true_eq, List.isEmpty_iff, Plan.Settled]
  tauto

theorem aborted_iff (s : State) : (s.plan.engine = .aborting && !s.planStarting) = true ↔ s.Aborted s.plan := by
  simp only [State.planStarting, Bool.and_eq_true, decide_eq_true_eq, Bool.not_eq_true', List.any_eq_false,
    State.Aborted]

/-- The review of a bay of the pending set: the state with its departure, then the end of a WAIT_SETTLED step or of
an abort. -/
theorem planReview_of_mem {b : BayId} {s : State} (h : b ∈ s.plan.pendingSet) :
    let t := { s with plan := s.plan.departed b (s.bay b) }
    (t.plan.Settled → planReview b s = endWaitSettled t)
    ∧ (s.Aborted t.plan → planReview b s = finishAbort t)
    ∧ (¬ t.plan.Settled → ¬ s.Aborted t.plan → planReview b s = t) := by
  intro t
  have hreview : planReview b s
      = if (t.plan.engine = .running && t.plan.awaitsSettled && t.plan.pendingSet.isEmpty) = true
        then endWaitSettled t else if (t.plan.engine = .aborting && !t.planStarting) = true then finishAbort t else t := by
    rw [planReview, if_pos h, depart_eq]
  have habort := aborted_iff t
  rw [hreview]
  refine ⟨fun hs => if_pos ((settled_iff _).mpr hs), fun ha => ?_, fun hs ha => ?_⟩
  · have hs : ¬ t.plan.Settled := fun hs => by
      have := hs.1.symm.trans ha.1
      cases this
    rw [if_neg (fun h => hs ((settled_iff _).mp h)), if_pos (habort.mpr ha)]
  · rw [if_neg (fun h => hs ((settled_iff _).mp h)), if_neg (fun h => ha (habort.mp h))]

/-- The end of a WAIT_SETTLED step (R128, R133). -/
theorem endWaitSettled_eq {s : State} {i : SlotId} (hi : s.plan.current = some i) :
    let st := s.plan.steps.get i
    let ended := { s.plan with
      steps := s.plan.steps.set i { st with result := .done, refused := min s.plan.lost 8 }
      pendingSet := [], lost := 0, inProgress := false
      notified := if st.notify then some (i, .done) else s.plan.notified }
    endWaitSettled s = if st.last then
        post .plan { s with plan := { ended with engine := .done, outcome := some .complete } }
      else
        let u := { s with plan := { ended with current := some st.next } }
        if st.notify then post .plan u else u := by
  simp only [endWaitSettled, endStep, hi, postIf]

theorem endStep_pendingSet {s : State} (h : s.plan.pendingSet = []) (r : StepResult) (n : Nat) :
    (endStep r n s).plan.pendingSet = [] := by
  unfold endStep
  split
  · exact h
  · dsimp only
    split
    · rfl
    · rw [postIf_plan]
      exact h

theorem endWaitSettled_pendingSet (s : State) : (endWaitSettled s).plan.pendingSet = [] :=
  endStep_pendingSet (s := { s with plan := { s.plan with pendingSet := [], lost := 0 } }) rfl _ _

/-! ### A change of a bay -/

/-- The state in which bay `b` holds a new record and is posted where a reportable field changed. -/
def State.written (s : State) (b : BayId) (y : Bay) : State := postBay b (s.report b) (setBay b y s)

theorem changeBay_eq (b : BayId) (f : Bay → Bay) (s : State) :
    changeBay b f s = planReview b (s.written b (f (s.bay b))) := rfl

theorem written_cases (s : State) (b : BayId) (y : Bay) : s.written b y
    = if (setBay b y s).report b = s.report b then setBay b y s else post (.bay b) (setBay b y s) := by
  unfold State.written postBay
  by_cases h : (setBay b y s).report b = s.report b
  · rw [if_pos h, decide_eq_false (not_not.mpr h), postIf_false]
  · rw [if_neg h, decide_eq_true h, postIf_true]

theorem written_ports (s : State) (b : BayId) (y : Bay) : ∃ ps, s.written b y = { setBay b y s with ports := ps } :=
  postIf_posts _ _ _

theorem written_plan (s : State) (b : BayId) (y : Bay) : (s.written b y).plan = s.plan := by
  obtain ⟨ps, h⟩ := written_ports s b y
  rw [h]
  rfl

theorem written_bay (s : State) (b c : BayId) (y : Bay) : (s.written b y).bay c = (setBay b y s).bay c := by
  obtain ⟨ps, h⟩ := written_ports s b y
  rw [h]
  rfl

theorem changeBay_report (b : BayId) (f : Bay → Bay) (s : State) :
    (changeBay b f s).report b = (setBay b (f (s.bay b)) s).report b := by
  simp only [State.report, changeBay_bay_same, bay_setBay_same, changeBay_bayCfg, bayCfg_setBay]

/-- A bay that leaves the pending set, each bay once in it, is no longer in it. -/
theorem departed_not_mem {b : BayId} {y : Bay} {pl : Plan} (hnodup : pl.pendingSet.Nodup)
    (hy : y.staysPending = false) : b ∉ (pl.departed b y).pendingSet := by
  rw [Plan.departed, if_neg (by simp [hy])]
  exact List.Nodup.not_mem_erase hnodup

/-- Settles O16: the record by the frame of a change, the posting by `written`, the plan by its review. -/
theorem changeOfABay : Obligations.ChangeOfABay := by
  refine ⟨fun o s p => ⟨rfl, port_post p o s⟩, fun b f s => ?_⟩
  have hplan : (s.written b (f (s.bay b))).plan = s.plan := written_plan ..
  have hbay : (s.written b (f (s.bay b))).bay b = f (s.bay b) := by rw [written_bay, bay_setBay_same]
  have hwritten := written_cases s b (f (s.bay b))
  have hout : b ∉ s.plan.pendingSet → changeBay b f s = s.written b (f (s.bay b)) := fun hb => by
    rw [changeBay_eq, planReview_of_not_mem (by rwa [hplan])]
  have hreview := fun hb : b ∈ s.plan.pendingSet => planReview_of_mem (s := s.written b (f (s.bay b))) (by rwa [hplan])
  simp only [hplan, hbay] at hreview
  refine ⟨changeBay_bay_same b f s, fun c hc => changeBay_bay_ne hc f s, ?_, fun hb => ?_, fun hnodup hy => ?_,
    fun hy hb heng => ?_, fun hne => ?_, fun hsame hb => ?_, fun hb => ⟨fun hs i hi => ?_, fun ha => ?_, fun hs ha => ?_⟩⟩
  · obtain ⟨pl, ps, h⟩ := changeBay_frame b f s
    rw [h]
  · rw [hout hb, hplan]
  · by_cases hb : b ∈ s.plan.pendingSet
    · obtain ⟨hsettled, haborted, helse⟩ := hreview hb
      by_cases hs : (s.plan.departed b (f (s.bay b))).Settled
      · rw [changeBay_eq, hsettled hs, endWaitSettled_pendingSet]
        exact List.not_mem_nil
      · by_cases ha : (s.written b (f (s.bay b))).Aborted (s.plan.departed b (f (s.bay b)))
        · rw [changeBay_eq, haborted ha, finishAbort_plan]
          exact List.not_mem_nil
        · rw [changeBay_eq, helse hs ha]
          exact departed_not_mem hnodup hy
    · rwa [hout hb, hplan]
  · obtain ⟨-, -, helse⟩ := hreview hb
    rw [departed_of_stays hy] at helse
    have hs : ¬ s.plan.Settled := fun hs => by
      rw [hs.2.2.1] at hb
      exact List.not_mem_nil hb
    rw [changeBay_eq, helse hs fun ha => heng ha.1]
    exact hb
  · have hpost : (s.written b (f (s.bay b))).Both (PortState.Holds (.bay b)) := by
      rw [changeBay_report] at hne
      rw [hwritten, if_neg hne]
      exact post_both ..
    obtain ⟨⟨hla, haa⟩, hlb, hab⟩ := both_planReview (post_holds (.bay b)) b hpost
    exact ⟨hla, hlb, haa, hab⟩
  · rw [changeBay_report] at hsame
    rw [hout hb, hwritten, if_pos hsame]
    rfl
  · obtain ⟨hrun, hprogress, hempty, haction⟩ := hs
    have hset : (s.plan.departed b (f (s.bay b))).Settled := by
      rw [Plan.Settled, departed_engine, departed_inProgress, departed_current, departed_steps]
      exact ⟨hrun, hprogress, hempty, haction⟩
    have hend := endWaitSettled_eq (s := { s.written b (f (s.bay b)) with plan := s.plan.departed b (f (s.bay b)) })
      ((departed_current b _ s.plan).trans hi)
    dsimp only at hend
    rw [departed_steps, departed_notified] at hend
    rw [changeBay_eq, (hreview hb).1 hset, hend, hwritten]
    rfl
  · have habort : (s.written b (f (s.bay b))).Aborted (s.plan.departed b (f (s.bay b))) := by
      obtain ⟨heng, hnone⟩ := ha
      refine ⟨(departed_engine ..).trans heng, fun c hc => ?_⟩
      rw [written_bay]
      exact hnone c hc
    rw [changeBay_eq, (hreview hb).2.1 habort, hwritten]
    rfl
  · have hset : ¬ (s.plan.departed b (f (s.bay b))).Settled := fun h => hs (by
      rw [Plan.Settled, departed_engine, departed_inProgress, departed_current, departed_steps] at h
      exact h)
    have habort : ¬ (s.written b (f (s.bay b))).Aborted (s.plan.departed b (f (s.bay b))) := fun h => ha (by
      obtain ⟨heng, hnone⟩ := h
      refine ⟨(departed_engine ..).symm.trans heng, fun c hc => ?_⟩
      have := hnone c hc
      rwa [written_bay] at this)
    rw [changeBay_eq, (hreview hb).2.2 hset habort, hwritten]
    rfl

end Sys2Proof.Machine

/-!
PROOF. The Ledger's events (R61, R64, R66): a shed, the judgement of a collapse with its stops, and what a change of
the supplies comes to.
-/

namespace Sys2Proof.Machine

/-! ### The shed timer (R63, R64) -/

theorem shedTimer_restarted (total : Bool) (delay : Nat) :
    shedTimer total delay none = if total = false ∨ delay = 0 then none else some (delay * 1000) := by
  by_cases h : total = false ∨ delay = 0
  · rw [if_pos h]
    exact shedTimer_eq_none h none
  · rw [if_neg h]
    rw [not_or, Bool.not_eq_false] at h
    rw [h.1]
    exact shedTimer_eq_some h.2 none

theorem restartShed_eq {s : State} {delay : Nat} (h : s.settings.budget.shedDelay = delay) : restartShed s = { s with
    shed := if s.overBudget = false ∨ delay = 0 then none else some (delay * 1000) } := by
  rw [restartShed, shedTimer_restarted, h]

theorem shedBay_eq (b : BayId) (s : State) : shedBay b s = recompute (changeBay b (fun y => { y with
    state := .stopping, switch := false, temp := none, attempts := 0, requeue := true
    origin := some .shed, lastEvent := .shed, timer := .stop ((s.profile b).stopTime * 100) }) s) := by
  rw [shedBay]
  rfl

theorem shedBay_settings (b : BayId) (s : State) : (shedBay b s).settings = s.settings := by
  rw [shedBay, recompute_settings, changeBay_settings]

theorem shedEnd_due {s : State} (hrun : s.shed.isSome) (hover : s.overBudget = true) :
    (s.shed.isSome && s.overBudget) = true := by
  simp [hrun, hover]

theorem shedEnd_none {s : State} (hdue : (s.shed.isSome && s.overBudget) = true) (h : s.shedChoice = none) :
    shedEnd s = restartShed s := by
  rw [shedEnd, if_pos hdue, h]

theorem shedEnd_some {s : State} (hdue : (s.shed.isSome && s.overBudget) = true) {b : BayId}
    (h : s.shedChoice = some b) :
    shedEnd s = opportunity (restartShed (shedBay b { s with shed := none })) := by
  rw [shedEnd, if_pos hdue, h]

/-- Settles O32: the choice is the best READY sheddable bay, and its stop is followed by the timer and an
opportunity. -/
theorem shedTimerExpiry : Obligations.ShedTimerExpiry := by
  intro s hrun
  refine ⟨fun hshed hover => ⟨fun b hcan hmax => ?_, fun hnone => ?_⟩, fun hidle => ?_⟩
  · have hprofile : ({ s with shed := none } : State).profile b = s.profile b := rfl
    have hset := shedBay_settings b { s with shed := none }
    refine congrArg Host.Outcome.next ((event_running hrun).trans ?_)
    rw [shedEnd_some (shedEnd_due hshed hover) (shedChoice_some hcan hmax),
      restartShed_eq (congrArg (·.budget.shedDelay) hset), shedBay_eq, hprofile]
  · refine congrArg Host.Outcome.next ((event_running hrun).trans ?_)
    rw [shedEnd_none (shedEnd_due hshed hover) (shedChoice_none hnone)]
    exact restartShed_eq rfl
  · refine congrArg Host.Outcome.next ((event_running hrun).trans ?_)
    simp [shedEnd, hidle]

/-! ### The stops of a collapse (R66) -/

/-- The record of a bay a collapse stops. -/
def Bay.collapsed (stopTime : Nat) (y : Bay) : Bay :=
  { y with
    state := .stopping, switch := false, temp := none, attempts := 0, requeue := true, origin := some .restore
    lastEvent := .collapse, timer := .stop (stopTime * 100) }

/-- One bay of a collapse: stopped where it is powered. -/
def stopOne (t : State) (b : BayId) : State :=
  if (t.bay b).state.powered then changeBay b (Bay.collapsed (t.profile b).stopTime) t else t

theorem stopAll_eq (s : State) : stopAll s = allBays.foldl stopOne s := by rfl

/-- A collapse's stops leave all but bays, plan and change lists as they are. -/
def State.StopsFrom (s t : State) : Prop := ∃ bays pl ps, t = { s with bays := bays, plan := pl, ports := ps }

theorem StopsFrom.only {s t : State} (h : s.StopsFrom t) :
    t = { s with bays := t.bays, plan := t.plan, ports := t.ports } := by
  obtain ⟨bays, pl, ps, rfl⟩ := h
  rfl

theorem StopsFrom.settings {s t : State} (h : s.StopsFrom t) : t.settings = s.settings := by
  obtain ⟨bays, pl, ps, rfl⟩ := h
  rfl

theorem stopOne_stopsFrom {s t : State} (h : s.StopsFrom t) (b : BayId) : s.StopsFrom (stopOne t b) := by
  unfold stopOne
  split
  · obtain ⟨pl, ps, hchange⟩ := changeBay_frame b (Bay.collapsed (t.profile b).stopTime) t
    obtain ⟨bays, pl', ps', rfl⟩ := h
    exact ⟨_, _, _, hchange⟩
  · exact h

theorem stopAll_stopsFrom (s : State) : s.StopsFrom (stopAll s) := by
  rw [stopAll_eq]
  exact foldl_keeps (g := stopOne) (P := s.StopsFrom) (fun _ b h => stopOne_stopsFrom h b) allBays ⟨_, _, _, rfl⟩

theorem stopOne_bay {s t : State} (hset : t.settings = s.settings) (b c : BayId) : (stopOne t b).bay c
    = if c = b then
        (if (t.bay b).state.powered then
          (t.bay b).collapsed (s.settings.profiles.get (t.bay b).profile).stopTime else t.bay b)
      else t.bay c := by
  have hprofile : t.profile b = s.settings.profiles.get (t.bay b).profile := by rw [State.profile, hset]
  unfold stopOne
  split
  · rw [changeBay_bay, hprofile]
  · split
    · next h => rw [h]
    · rfl

theorem stopAll_bay (s : State) (b : BayId) : (stopAll s).bay b
    = if (s.bay b).state ∈ [BayState.starting, .ready] then (s.bay b).collapsed (s.profile b).stopTime
      else s.bay b := by
  rw [stopAll_eq, foldl_bay (g := stopOne)
    (h := fun _ y => if y.state.powered then y.collapsed (s.settings.profiles.get y.profile).stopTime else y)
    (P := s.StopsFrom) (fun t b h => stopOne_stopsFrom h b) (fun t b c h => stopOne_bay (StopsFrom.settings h) b c)
    allBays s ⟨_, _, _, rfl⟩ nodup_allBays b, if_pos (mem_allBays b)]
  by_cases h : (s.bay b).state.powered = true
  · rw [if_pos h, if_pos ((powered_iff _).mp h), State.profile]
  · rw [if_neg h, if_neg fun hm => h ((powered_iff _).mpr hm)]

theorem anyPowered_iff (s : State) : s.anyPowered = true ↔ ∃ b, (s.bay b).state ∈ [BayState.starting, .ready] := by
  simp only [State.anyPowered, List.any_eq_true, mem_allBays, true_and, powered_iff]

theorem anyPowered_congr {s t : State} (h : ∀ b, (t.bay b).state = (s.bay b).state) : t.anyPowered = s.anyPowered := by
  simp only [State.anyPowered, h]

theorem stopAll_anyPowered (s : State) : (stopAll s).anyPowered = false := by
  rw [Bool.eq_false_iff, ne_eq, anyPowered_iff]
  rintro ⟨b, hb⟩
  rw [stopAll_bay] at hb
  by_cases h : (s.bay b).state ∈ [BayState.starting, .ready]
  · rw [if_pos h] at hb
    exact absurd hb (by simp [Bay.collapsed])
  · rw [if_neg h] at hb
    exact h hb

/-! ### The judgement (R66, R67) -/

/-- A supply is installed and good (R50). -/
def State.HasGood (s : State) : Prop :=
  ∃ i : SupplyId, (s.settings.supplies.get i).installed = true ∧ (s.supplies.get i).good = true

theorem goodSupplies_isEmpty (s : State) : s.goodSupplies.isEmpty = true ↔ ¬ s.HasGood := by
  simp only [State.goodSupplies, List.isEmpty_iff, List.filter_eq_nil_iff, List.mem_finRange, true_imp_iff,
    State.supplyGood, Bool.and_eq_true, State.HasGood, not_exists]

theorem judgeCollapse_good {s : State} (h : s.HasGood) :
    judgeCollapse s = if s.collapse then post .enclosure { s with collapse := false } else s := by
  rw [judgeCollapse, if_neg fun he => (goodSupplies_isEmpty s).mp he h]

theorem judgeCollapse_standing {s : State} (h : ¬ s.HasGood) (hc : s.collapse = true) : judgeCollapse s = s := by
  rw [judgeCollapse, if_pos ((goodSupplies_isEmpty s).mpr h), if_pos hc]

theorem judgeCollapse_falls {s : State} (h : ¬ s.HasGood) (hc : s.collapse = false) :
    judgeCollapse s = post .enclosure { stopAll s with collapse := true } := by
  rw [judgeCollapse, if_pos ((goodSupplies_isEmpty s).mpr h), if_neg (by simp [hc])]

theorem judgeCollapse_anyPowered (s : State) : (s.anyPowered && !(judgeCollapse s).anyPowered) = true
    ↔ ¬ s.HasGood ∧ s.collapse = false ∧ ∃ b, (s.bay b).state ∈ [BayState.starting, .ready] := by
  by_cases hgood : s.HasGood
  · have hsame : (judgeCollapse s).anyPowered = s.anyPowered := anyPowered_congr fun b => by
      rw [judgeCollapse_good hgood]
      split <;> rfl
    simp [hsame, hgood]
  · by_cases hc : s.collapse = true
    · rw [judgeCollapse_standing hgood hc]
      simp [hc]
    · rw [Bool.not_eq_true] at hc
      have hnone : (judgeCollapse s).anyPowered = false := by
        have hstopped := stopAll_anyPowered s
        rw [judgeCollapse_falls hgood hc]
        generalize stopAll s = u at hstopped ⊢
        exact hstopped
      simp only [hnone, Bool.not_false, Bool.and_true, anyPowered_iff, hgood, not_false_eq_true, hc, true_and]

/-- A recompute changed A or cleared the over-budget flag (R32). -/
theorem ledgerOpens_iff (s t : State) : ledgerOpens s t = true
    ↔ t.totals.allowance ≠ s.totals.allowance ∨ (s.overBudget = true ∧ t.overBudget = false) := by
  simp only [ledgerOpens, Bool.or_eq_true, bne_iff_ne, Bool.and_eq_true, Bool.not_eq_true']
  exact or_congr ne_comm Iff.rfl

theorem supplyEvent_opens (s : State) :
    (ledgerOpens s (recompute (judgeCollapse s)) || (s.anyPowered && !(recompute (judgeCollapse s)).anyPowered)) = true
      ↔ ((recompute (judgeCollapse s)).totals.allowance ≠ s.totals.allowance
          ∨ (s.overBudget = true ∧ (recompute (judgeCollapse s)).overBudget = false))
        ∨ (¬ s.HasGood ∧ s.collapse = false ∧ ∃ b, (s.bay b).state ∈ [BayState.starting, .ready]) := by
  have hpowered : (recompute (judgeCollapse s)).anyPowered = (judgeCollapse s).anyPowered :=
    anyPowered_congr fun b => by rw [recompute_bay]
  rw [hpowered, Bool.or_eq_true, ledgerOpens_iff, judgeCollapse_anyPowered]

end Sys2Proof.Machine

/-!
PROOF. A collapse (R66): what the loss of the last good supply comes to, from the fall of the line to the admission
opportunity that ends the event.
-/

namespace Sys2Proof.Machine

/-! ### The postings of the stops -/

/-- A change of the state of a bay posts the bay (R3). -/
theorem changeBay_posts {b : BayId} {f : Bay → Bay} {s : State} (h : (f (s.bay b)).state ≠ (s.bay b).state) :
    (changeBay b f s).Both (PortState.Holds (.bay b)) := by
  have hne : (setBay b (f (s.bay b)) s).report b ≠ s.report b := fun he => h (by
    have hstate := congrArg BayReport.state he
    rwa [State.report, State.report, bay_setBay_same] at hstate)
  rw [changeBay_eq]
  refine both_planReview (post_holds (.bay b)) b ?_
  rw [written_cases, if_neg hne]
  exact post_both ..

theorem stopOne_holds {o : Obj} {s : State} (h : s.Both (PortState.Holds o)) (b : BayId) :
    (stopOne s b).Both (PortState.Holds o) := by
  unfold stopOne
  split
  · exact both_changeBay (post_holds o) b _ h
  · exact h

/-- Each bay a collapse stops is posted. -/
theorem stopAll_posts {s : State} {b : BayId} (h : (s.bay b).state ∈ [BayState.starting, .ready]) :
    (stopAll s).Both (PortState.Holds (.bay b)) := by
  obtain ⟨before, after, hsplit⟩ := List.append_of_mem (mem_allBays b)
  have hnodup := nodup_allBays
  rw [hsplit, List.nodup_append] at hnodup
  obtain ⟨hbefore, -, hdisjoint⟩ := hnodup
  have hbay : (before.foldl stopOne s).bay b = s.bay b := by
    rw [foldl_bay (g := stopOne)
      (h := fun _ y => if y.state.powered then y.collapsed (s.settings.profiles.get y.profile).stopTime else y)
      (P := s.StopsFrom) (fun t b h => stopOne_stopsFrom h b) (fun t b c h => stopOne_bay (StopsFrom.settings h) b c)
      before s ⟨_, _, _, rfl⟩ hbefore b, if_neg fun hb => hdisjoint b hb b List.mem_cons_self rfl]
  rw [stopAll_eq, hsplit, List.foldl_append, List.foldl_cons]
  generalize before.foldl stopOne s = t at hbay
  refine foldl_keeps (g := stopOne) (P := State.Both (PortState.Holds (.bay b))) (fun _ c h => stopOne_holds h c) after ?_
  have hpowered : (t.bay b).state.powered = true := by rwa [hbay, powered_iff]
  rw [stopOne, if_pos hpowered]
  refine changeBay_posts fun he => ?_
  have hstopping : (s.bay b).state = .stopping := by rw [← hbay, ← he, Bay.collapsed]
  rw [hstopping] at h
  exact absurd h (by decide)

/-! ### No supply, no draw -/

theorem reservation_unpowered {s : State} {b : BayId} (h : (s.bay b).state ∉ [BayState.starting, .ready]) :
    s.reservation b = 0 := by
  unfold State.reservation
  split
  · next hs => exact absurd (by rw [hs]; decide) h
  · next hs => exact absurd (by rw [hs]; decide) h
  · rfl

theorem committed_unpowered {s : State} (h : s.anyPowered = false) : s.committed = 0 := by
  have hnone : ∀ b, (s.bay b).state ∉ [BayState.starting, .ready] := fun b hb => by
    rw [(anyPowered_iff s).mpr ⟨b, hb⟩] at h
    cases h
  have hzero : s.reservation = fun _ => 0 := funext fun b => reservation_unpowered (hnone b)
  simp [State.committed, hzero]

theorem allowance_without_supply {s : State} (h : ¬ s.HasGood) : s.computeTotals.allowance = 0 := by
  have hnone : s.goodSupplies = [] := List.isEmpty_iff.mp ((goodSupplies_isEmpty s).mpr h)
  have hgross : s.gross.1 ≤ 0 := (gross_le_sum s).trans (by simp [State.goodCapacities, hnone])
  simp only [State.computeTotals, Nat.le_zero.mp hgross, Nat.zero_mul, Nat.zero_div, Nat.zero_sub]

/-! ### The event -/

/-- What stands from the stops of a collapse to the end of the event: a drawer within a budget of nothing, and the
postings of objects `os`. -/
structure State.Recovering (os : List Obj) (r u : State) : Prop where
  admitted : r.AdmittedTo u
  within : u.overBudget = false
  shedIdle : u.shed = none
  collapsed : u.collapse = true
  posted : ∀ o ∈ os, u.Both (PortState.Holds o)

theorem startBay_overBudget (b : BayId) (q : List Entry) (s : State) : (startBay b q s).overBudget
    = decide ((startBay b q s).totals.allowance < (startBay b q s).totals.committed) := by
  rw [startBay_eq, recompute_overBudget, recompute_totals]

theorem startBay_shed (b : BayId) (q : List Entry) (s : State) : (startBay b q s).shed
    = shedTimer (startBay b q s).overBudget s.settings.budget.shedDelay s.shed := by
  obtain ⟨pl, ps, hchange⟩ := changeBay_frame b (fun y => { y with
    state := .starting, lastEvent := .admitted, switch := true, attempts := y.attempts + 1
    timer := .surge ((s.profile b).surgeTime * 100) }) { s with queue := q }
  rw [startBay_eq, recompute_shed, hchange]

theorem startBay_collapse (b : BayId) (q : List Entry) (s : State) : (startBay b q s).collapse = s.collapse := by
  obtain ⟨gap, totals, total, lost, shed, ps, pl, h⟩ := startBay_frame b q s
  rw [h]

theorem recovering_step {os : List Obj} {r u t : State} (hr : r.totals.committed ≤ r.totals.allowance)
    (hu : r.Recovering os u) (h : admitOne u = some t) : r.Recovering os t := by
  obtain ⟨hadmitted, hwithin, hshed, hcollapse, hposted⟩ := hu
  have ht := admittedTo_step hadmitted h
  obtain ⟨e, q, -, -, -, -, -, heq⟩ := admitOne_cases h
  have hover : t.overBudget = false := by
    rw [heq, startBay_overBudget, ← heq, decide_eq_false_iff_not]
    exact Nat.not_lt.mpr (ht.committed hr)
  refine ⟨ht, hover, ?_, ?_, fun o ho => ?_⟩
  · rw [heq, startBay_shed, ← heq, hover, hshed]
    rfl
  · rw [heq, startBay_collapse, hcollapse]
  · rw [heq]
    exact both_startBay (post_holds o) e.bay q (hposted o ho)

/-- The objects a collapse posts, among others. -/
def State.collapsePosts (s : State) : List Obj :=
  .enclosure :: (allBays.filter fun b => (s.bay b).state ∈ [BayState.starting, .ready]).map .bay

/-- The stops and the recompute of a collapse leave the drawer recovering. -/
theorem collapse_recovering {u : State} (hq : u.QueueOk) (hgood : ¬ u.HasGood) (hc : u.collapse = false) :
    (recompute (judgeCollapse u)).Recovering u.collapsePosts (recompute (judgeCollapse u))
    ∧ (recompute (judgeCollapse u)).totals.committed = 0 ∧ (recompute (judgeCollapse u)).totals.allowance = 0
    ∧ (∀ b, (recompute (judgeCollapse u)).bay b = (stopAll u).bay b) := by
  have honly := StopsFrom.only (stopAll_stopsFrom u)
  have hbay := stopAll_bay u
  have hunpowered := stopAll_anyPowered u
  have hposts := fun b (hb : (u.bay b).state ∈ [BayState.starting, .ready]) => stopAll_posts hb
  rw [judgeCollapse_falls hgood hc]
  generalize stopAll u = v at honly hbay hunpowered hposts
  have hgoodJ : ¬ (post .enclosure { v with collapse := true }).HasGood := by
    rw [honly]
    exact hgood
  have hunpoweredJ : (post .enclosure { v with collapse := true }).anyPowered = false := hunpowered
  have hcommitted := committed_unpowered hunpoweredJ
  have hallowance := allowance_without_supply hgoodJ
  have hqueue : (post .enclosure { v with collapse := true }).QueueOk := by
    refine queueOk_of_same hq ?_ (fun c => ?_) (fun c => ?_) fun c hqueued => ?_
    · rw [honly]
      rfl
    · rw [honly]
      rfl
    · show (v.bay c).state = .queued ↔ _
      rw [hbay c]
      split
      · next h =>
        rw [Bay.collapsed]
        exact ⟨nofun, fun hs => by rw [hs] at h; exact absurd h (by decide)⟩
      · exact Iff.rfl
    · show (v.bay c).origin = _
      rw [hbay c, if_neg (by rw [hqueued]; decide)]
  have hpostJ : ∀ o ∈ u.collapsePosts, (post .enclosure { v with collapse := true }).Both (PortState.Holds o) := by
    intro o ho
    rcases List.mem_cons.mp ho with rfl | ho
    · exact post_both ..
    · obtain ⟨b, hb, rfl⟩ := List.mem_map.mp ho
      have hpowered := (List.mem_filter.mp hb).2
      exact both_post (post_holds _) _ (hposts b (of_decide_eq_true hpowered))
  have hbayJ : ∀ b, (post .enclosure { v with collapse := true }).bay b = v.bay b := fun _ => rfl
  have hcollapseJ : (post .enclosure { v with collapse := true }).collapse = true := rfl
  generalize post .enclosure { v with collapse := true } = j at *
  have hcommittedR : (recompute j).totals.committed = 0 := by rw [recompute_totals]; exact hcommitted
  have hallowanceR : (recompute j).totals.allowance = 0 := by rw [recompute_totals]; exact hallowance
  have hover : (recompute j).overBudget = false := by
    rw [recompute_overBudget, hallowance, decide_eq_false_iff_not]
    exact Nat.not_lt.mpr (hcommitted.le.trans (Nat.zero_le _))
  refine ⟨⟨⟨?_, rfl, ?_, rfl, id, le_max_left _ _, fun _ _ => rfl⟩, hover, ?_, ?_, fun o ho => ?_⟩,
    hcommittedR, hallowanceR, fun b => by rw [recompute_bay, hbayJ]⟩
  · refine queueOk_of_same hqueue ?_ (fun c => ?_) (fun c => by rw [recompute_bay]) fun c _ => by rw [recompute_bay]
    · obtain ⟨ps, h⟩ := recompute_frame j
      rw [h]
    · rw [State.bayCfg, State.bayCfg, recompute_settings]
  · rw [recompute_totals, computeTotals_recompute]
  · rw [recompute_shed, hover]
    rfl
  · obtain ⟨ps, h⟩ := recompute_frame j
    rw [h]
    exact hcollapseJ
  · exact both_recompute (post_holds o) (hpostJ o ho)

/-- A supply event without a good supply, out of collapse, leaves the drawer recovering. -/
theorem supplyEvent_recovering {u : State} (hq : u.QueueOk) (hgood : ¬ u.HasGood) (hc : u.collapse = false) :
    (recompute (judgeCollapse u)).Recovering u.collapsePosts (supplyEvent u)
    ∧ (supplyEvent u).totals.allowance = 0
    ∧ ∀ b, (u.bay b).state ≠ .queued → (supplyEvent u).bay b = (stopAll u).bay b := by
  obtain ⟨hr, hcommitted, hallowance, hbay⟩ := collapse_recovering hq hgood hc
  have hend : (recompute (judgeCollapse u)).Recovering u.collapsePosts (supplyEvent u) := by
    unfold supplyEvent
    dsimp only
    generalize recompute (judgeCollapse u) = r at *
    split
    · exact opportunity_keeps (P := r.Recovering u.collapsePosts)
        (fun _ _ => recovering_step (hcommitted.le.trans (Nat.zero_le _))) hr
    · exact hr
  refine ⟨hend, hend.admitted.allowance.trans hallowance, fun b hb => ?_⟩
  have hsame : ((recompute (judgeCollapse u)).bay b).state ≠ .queued := by
    rw [hbay b, stopAll_bay]
    split
    · rw [Bay.collapsed]
      exact nofun
    · exact hb
  rw [hend.admitted.others b hsame, hbay b]

/-- The fall of the line of the last good supply is a supply event of a drawer without one. -/
theorem setGood_last {i : SupplyId} {s : State} (h : s.goodSupplies = [i]) :
    ∃ u : State, setGood i false s = supplyEvent u ∧ ¬ u.HasGood
      ∧ u.settings = s.settings ∧ u.bays = s.bays ∧ u.queue = s.queue ∧ u.collapse = s.collapse := by
  have hi : s.supplyGood i = true := by
    have hmem : i ∈ s.goodSupplies := by rw [h]; exact List.mem_singleton_self i
    exact (List.mem_filter.mp hmem).2
  obtain ⟨hinst, hgood⟩ := (Bool.and_eq_true _ _).mp hi
  refine ⟨post (.supply i) (setSupply i { good := false, qualify := none } s), ?_, ?_, rfl, rfl, rfl, rfl⟩
  · have hne : ¬ (s.supplies.get i).good = false := by simp [hgood]
    rw [setGood, if_neg hne, if_pos hinst]
  · rintro ⟨k, hkinst, hkgood⟩
    have hget : ((s.supplies.set i { good := false, qualify := none }).get k).good = true := hkgood
    rw [get_set_eq] at hget
    split at hget
    · cases hget
    · next hne =>
      have hmem : k ∈ s.goodSupplies :=
        List.mem_filter.mpr ⟨List.mem_finRange k, (Bool.and_eq_true _ _).mpr ⟨hkinst, hget⟩⟩
      rw [h, List.mem_singleton] at hmem
      exact hne hmem

theorem both_port {K : PortState → Prop} {s : State} (h : s.Both K) (q : Port) : K (s.port q) := by
  cases q
  · exact h.1
  · exact h.2

/-- Settles O30: the collapse by what stands to the end of the event, the judgement by its three cases. -/
theorem collapseStopsEveryBay : Obligations.CollapseStopsEveryBay := by
  refine ⟨fun i s t hrun hqueue _ hc hlast h => ?_, fun s => ?_⟩
  · obtain ⟨u, hu, hgood, hset, hbays, hq, hcol⟩ := setGood_last hlast
    have ht : t = supplyEvent u := by
      have h' := Host.Outcome.next.inj (h : Host.Outcome.next _ = _)
      rw [← h', event_running hrun, hu]
    have hbay : ∀ b, u.bay b = s.bay b := fun b => by rw [State.bay, State.bay, hbays]
    have hqueueU : u.QueueOk := queueOk_of_same hqueue hq (fun c => by rw [State.bayCfg, State.bayCfg, hset])
      (fun c => by rw [hbay]) fun c _ => by rw [hbay]
    obtain ⟨hend, hallowance, hsame⟩ := supplyEvent_recovering hqueueU hgood (hcol.trans hc)
    rw [ht]
    refine ⟨fun b => ⟨fun hb => ?_, fun hb => ?_⟩, hend.collapsed, hend.within, hend.shedIdle, hallowance, fun q => ?_⟩
    · have hne : (u.bay b).state ≠ .queued := fun hs => by
        rw [hbay] at hs
        rw [hs] at hb
        exact absurd hb (by decide)
      have hprofile : u.profile b = s.profile b := profile_congr hset (by rw [hbay])
      rw [hsame b hne, stopAll_bay, hbay, if_pos hb, hprofile]
      rfl
    · simp only [List.mem_cons, List.not_mem_nil, or_false, not_or] at hb
      obtain ⟨hstarting, hready, hqueued⟩ := hb
      have hunpowered : (s.bay b).state ∉ [BayState.starting, .ready] := by simp [hstarting, hready]
      rw [hsame b (by rwa [hbay]), stopAll_bay, hbay, if_neg hunpowered]
    · have henclosure := both_port (hend.posted .enclosure List.mem_cons_self) q
      refine ⟨henclosure.2, henclosure.1, fun b hb => ?_⟩
      refine (both_port (hend.posted (.bay b) (List.mem_cons_of_mem _ (List.mem_map.mpr ⟨b, ?_, rfl⟩))) q).1
      rw [List.mem_filter, hbay]
      exact ⟨mem_allBays b, decide_eq_true hb⟩
  · refine ⟨fun h => judgeCollapse_good h, fun h hc => judgeCollapse_standing h hc, fun h hc =>
      ⟨stopAll s, StopsFrom.only (stopAll_stopsFrom s), stopAll_bay s, judgeCollapse_falls h hc⟩, ?_, ?_⟩
    · have hopens := supplyEvent_opens s
      unfold supplyEvent
      dsimp only
      generalize recompute (judgeCollapse s) = t at hopens ⊢
      exact if_congr hopens rfl rfl
    · unfold ledgerEvent
      dsimp only
      generalize recompute s = r
      exact if_congr (ledgerOpens_iff s r) rfl rfl

end Sys2Proof.Machine

/-!
PROOF. What happens at a bay: presence and settling (R5–R7), the pull (R15), the button (R17–R19), the trips and the
ends of its windows (R41–R47).
-/

namespace Sys2Proof.Machine

/-- Out of reset an event comes to what it does. -/
theorem exec_event {i : Instr} {f : State → State} {s t : State} (hi : exec i s = .next (event f s))
    (hrun : s.resetHeld = false) (h : f s = t) : exec i s = .next t := by
  rw [hi, event_running hrun, h]

/-- A change of a bay is what it makes of the record as it stands. -/
theorem changeBay_congr {b : BayId} {f g : Bay → Bay} {s : State} (h : f (s.bay b) = g (s.bay b)) :
    changeBay b f s = changeBay b g s := by
  rw [changeBay_eq, changeBay_eq, h]

theorem joinQueue_eq (b : BayId) (o : Origin) (f : Bay → Bay) (s : State) : joinQueue b o f s = queued b o f s := rfl

/-! ### The pull (R5, R15) -/

theorem Bay.emptied_eq (ev : LastEvent) (y : Bay) : y.emptied ev = y.emptyRecord ev := by rfl

theorem exec_gone {b : BayId} {c : Instr} (hc : c ∈ [Instr.pull b, Instr.presenceLost b]) {s t : State}
    (hrun : s.resetHeld = false) (h : presenceGone b s = t) : exec c s = .next t := by
  simp only [List.mem_cons, List.not_mem_nil, or_false] at hc
  rcases hc with rfl | rfl
  · exact exec_event rfl hrun h
  · exact exec_event rfl hrun h

theorem presenceGone_live {b : BayId} {s : State} (h : (s.bay b).state ∈ [BayState.starting, .ready]) :
    presenceGone b s = opportunity (recompute (changeBay b (fun y => y.emptyRecord .removedLive) s)) := by
  simp only [List.mem_cons, List.not_mem_nil, or_false] at h
  rcases h with h | h <;> rw [presenceGone, h] <;> rfl

theorem presenceGone_off {b : BayId} {s : State} (h : (s.bay b).state ∈ [BayState.off, .backoff, .removable, .fault]) :
    presenceGone b s = changeBay b (fun y => y.emptyRecord .removed) s := by
  simp only [List.mem_cons, List.not_mem_nil, or_false] at h
  rcases h with h | h | h | h <;> rw [presenceGone, h] <;> rfl

/-- Settles O15: by the state the pull finds. -/
theorem pullOutcomes : Obligations.PullOutcomes := by
  intro b s hrun c hc
  have hgone := fun {t : State} => exec_gone (t := t) hc hrun
  cases h : (s.bay b).state
  case empty | settling => trivial
  case off | backoff | removable | fault => exact hgone (presenceGone_off (by rw [h]; decide))
  case starting | ready => exact hgone (presenceGone_live (by rw [h]; decide))
  case queued => exact hgone (by rw [presenceGone, h]; rfl)
  case stopping => exact hgone (by rw [presenceGone, h]; rfl)

/-! ### Presence and settling (R5–R7) -/

/-- A settle that is taken: its actions and the policy that follows, or the wait while LOADING (R6, R7). -/
def settleOne (k : Vector ProfileId 60) (t : State) (c : BayId) : State :=
  let u := changeBay c (fun y => { y with
    state := .off, code := some (k.get c), profile := k.get c, startMark := false, attempts := 0
    lastEvent := .inserted, timer := .idle }) t
  if t.loading then changeBay c (fun y => { y with timer := .settled }) t
  else if (t.bay c).startMark then
    (if t.settings.scheduler.restart = .stage then queued c .restart id u else u)
  else
    (if t.settings.scheduler.insertion = .auto then queued c .insertion id u else u)

theorem takeSettle_eq (k : Vector ProfileId 60) (t : State) (c : BayId) :
    takeSettle c (k.get c) t = settleOne k t c := rfl

/-- The settles due with that of bay `b`, taken before it (R6, log 35). -/
theorem takeSettles_due (b : BayId) (k : Vector ProfileId 60) (s : State) : takeSettles (dueBefore b) k s
    = (List.finRange 60).foldl (fun t c =>
        if decide (c < b ∧ (t.bay c).state = .settling ∧ (t.bay c).timer = .settle 0) then settleOne k t c else t)
      s := by
  unfold takeSettles
  refine congrArg (fun g => List.foldl g s (List.finRange 60)) (funext fun t => funext fun c => if_congr ?_ rfl rfl)
  simp only [dueBefore, Bool.and_eq_true, decide_eq_true_eq]
  tauto

theorem settleEnd_runs {b : BayId} {k : Vector ProfileId 60} {n : Nat} {s : State} (hs : (s.bay b).state = .settling)
    (ht : (s.bay b).timer = .settle n) :
    settleEnd b k s = settleOne k (takeSettles (dueBefore b) k s) b := by
  rw [settleEnd, hs, ht, takeSettle_eq]

/-- Settles O14: the arrival and the loss by the state they find, the settle's end by the bays due with it. -/
theorem presenceAndSettle : Obligations.PresenceAndSettle := by
  refine ⟨fun b s hrun => ⟨fun h => exec_event rfl hrun (if_pos h), fun h => exec_event rfl hrun (if_neg h),
    fun c hc => ?_⟩, fun b k n s hrun hs ht => ⟨?_, fun hnone => ?_⟩, fun b k s hrun h => ?_⟩
  · have hc' : c ∈ [Instr.pull b, Instr.presenceLost b] := by
      simp only [List.mem_cons, List.not_mem_nil, or_false] at hc ⊢
      exact hc.symm
    refine ⟨fun h => exec_gone hc' hrun ?_, fun h => exec_gone hc' hrun ?_⟩ <;> rw [presenceGone, h]
    rfl
  · refine exec_event rfl hrun ((settleEnd_runs hs ht).trans ?_)
    rw [takeSettles_due]
    rfl
  · have hsame : takeSettles (dueBefore b) k s = s := takeSettles_of_none fun c hc => by
      by_contra hdue
      simp only [dueBefore, Bool.not_eq_false, Bool.and_eq_true, decide_eq_true_eq] at hdue
      exact absurd (hnone c) (by simp [hdue, hc])
    refine exec_event rfl hrun ((settleEnd_runs hs ht).trans ?_)
    rw [hsame]
    rfl
  · refine exec_event rfl hrun ?_
    rcases settleEnd_cases b k s with hsame | ⟨hs, ⟨n, ht⟩, -⟩
    · exact hsame
    · rcases h with h | h
      · exact absurd hs h
      · exact absurd ht (h n)

/-! ### The button, DECLINE ATTENTION and CLEAR FAULT (R17–R19, R21, R79) -/

theorem takesPress_iff (x : BayState) : x.takesPress = true ↔ x ∈ [BayState.off, .queued, .ready, .fault, .backoff] := by
  cases x <;> decide

theorem noCarrier_iff (x : BayState) : x.noCarrier = true ↔ x ∈ [BayState.empty, .settling] := by
  cases x <;> decide

/-- A press is taken (R17, R18). -/
def State.TakesPress (s : State) (b : BayId) : Prop :=
  (s.bayCfg b).buttonEnabled = true ∧ (s.bay b).state ∈ [BayState.off, .queued, .ready, .fault, .backoff]

/-- A press acts as a PREPARE REMOVAL (R79). -/
def State.DirectPress (s : State) (b : BayId) : Prop :=
  s.settings.removal.action = .direct ∧ (s.bay b).owner = none

theorem takesPress_cond (s : State) (b : BayId) :
    ((s.bayCfg b).buttonEnabled && (s.bay b).state.takesPress) = true ↔ s.TakesPress b := by
  rw [Bool.and_eq_true, takesPress_iff, State.TakesPress]

theorem directPress_cond (s : State) (b : BayId) :
    (s.settings.removal.action = .direct && (s.bay b).owner.isNone) = true ↔ s.DirectPress b := by
  rw [Bool.and_eq_true, decide_eq_true_eq, Option.isNone_iff_eq_none, State.DirectPress]

theorem pressBay_attention {s : State} {b : BayId} (h : s.TakesPress b) (hd : ¬ s.DirectPress b) :
    pressBay b s = changeBay b (fun y => { y with attention := true, lastEvent := .button }) s := by
  rw [pressBay, if_pos ((takesPress_cond s b).mpr h), if_neg fun hc => hd ((directPress_cond s b).mp hc)]

theorem pressBay_direct {s : State} {b : BayId} (h : s.TakesPress b) (hd : s.DirectPress b) :
    pressBay b s = (prepareBay b (changeBay b (fun y => { y with lastEvent := .button }) s)).1 := by
  rw [pressBay, if_pos ((takesPress_cond s b).mpr h), if_pos ((directPress_cond s b).mpr hd)]

theorem pressBay_untaken {s : State} {b : BayId} (h : ¬ s.TakesPress b) : pressBay b s = s :=
  if_neg fun hc => h ((takesPress_cond s b).mp hc)

/-- The state once a press has used up the release before it (R17, log 32). -/
theorem disarmed_bay (s : State) (b : BayId) : (setBay b { s.bay b with buttonArmed := false } s).bay b
    = { s.bay b with buttonArmed := false } := bay_setBay_same ..

theorem disarmed_takesPress (s : State) (b : BayId) :
    (setBay b { s.bay b with buttonArmed := false } s).TakesPress b ↔ s.TakesPress b := by
  simp only [State.TakesPress, disarmed_bay, bayCfg_setBay]

theorem disarmed_directPress (s : State) (b : BayId) :
    (setBay b { s.bay b with buttonArmed := false } s).DirectPress b ↔ s.DirectPress b := by
  simp only [State.DirectPress, disarmed_bay]
  exact Iff.rfl

theorem press_armed {s : State} {b : BayId} (h : (s.bay b).buttonArmed = true) :
    press b s = pressBay b (setBay b { s.bay b with buttonArmed := false } s) := if_pos h

theorem press_unarmed {s : State} {b : BayId} (h : (s.bay b).buttonArmed = false) : press b s = s := by
  simp [press, h]

/-- A multi-bay request on one bay the requester may act on is answered as its action takes the bay (R143, R158). -/
theorem answers_accepted {p : Port} {s t : State} (h : s.Taking p) {b : BayId} (hmay : s.mayAct p b = true) {i : Instr}
    {code : Nat} {tag : Byte} {act : BayId → State → State × Option Result}
    (hi : exec i s = .next (request .anyPort code p tag (readBayList [1, byte b.val]) (multiBay (owned p act)) s))
    (hact : act b (hear p s) = (t, none)) : Answers i s p code tag .ok [0] t := by
  refine answers_anyPort h hi (readBayList_list (bays := [byte b.val]) (by simp) (by simp)) (multiBay_accepts ?_)
  rw [owned, if_pos (show (hear p s).mayAct p b = true from hmay), hact]

theorem answers_wrongState {p : Port} {s : State} (h : s.Taking p) {b : BayId} (hmay : s.mayAct p b = true) {i : Instr}
    {code : Nat} {tag : Byte} {act : BayId → State → State × Option Result}
    (hi : exec i s = .next (request .anyPort code p tag (readBayList [1, byte b.val]) (multiBay (owned p act)) s))
    (hact : act b (hear p s) = (hear p s, some .wrongState)) :
    Answers i s p code tag .wrongState [1, byte b.val, 7] (hear p s) := by
  refine answers_anyPort h hi (readBayList_list (bays := [byte b.val]) (by simp) (by simp))
    (multiBay_refuses (c := .wrongState) ?_)
  rw [owned, if_pos (show (hear p s).mayAct p b = true from hmay), hact]

theorem hear_bay (p : Port) (s : State) (b : BayId) : (hear p s).bay b = s.bay b := by rfl

/-- Settles O17: the press by what it finds, the two requests by the bay's state. -/
theorem buttonsAttentionAndFaults : Obligations.ButtonsAttentionAndFaults := by
  refine ⟨fun b s hrun => ⟨fun harmed htaken hdirect => ?_, fun harmed htaken hdirect => ?_, fun harmed htaken => ?_,
    fun h => exec_event rfl hrun (press_unarmed h), exec_event rfl hrun rfl⟩,
    fun p tag b s h hmay => ⟨fun hb => ?_, fun hb => ?_, fun hb => ?_, fun hb => ?_⟩⟩
  · exact exec_event rfl hrun ((press_armed harmed).trans
      (pressBay_attention ((disarmed_takesPress s b).mpr htaken) fun hd => hdirect ((disarmed_directPress s b).mp hd)))
  · exact exec_event rfl hrun ((press_armed harmed).trans
      (pressBay_direct ((disarmed_takesPress s b).mpr htaken) ((disarmed_directPress s b).mpr hdirect)))
  · exact exec_event rfl hrun ((press_armed harmed).trans
      (pressBay_untaken fun ht => htaken ((disarmed_takesPress s b).mp ht)))
  · refine answers_accepted h hmay rfl ?_
    rw [declineBay, hear_bay, if_neg fun hc => hb ((noCarrier_iff _).mp hc)]
  · refine answers_wrongState h hmay rfl ?_
    rw [declineBay, hear_bay, if_pos ((noCarrier_iff _).mpr hb)]
  · refine answers_accepted h hmay rfl ?_
    rw [clearFaultBay, hear_bay, if_pos hb]
  · refine answers_wrongState h hmay rfl ?_
    rw [clearFaultBay, hear_bay, if_neg hb]

/-! ### Trips and the ends of the windows (R41–R47) -/

theorem exec_trip {b : BayId} {c : Instr} (hc : c ∈ [Instr.startTrip b, Instr.runTrip b]) {s t : State}
    (hrun : s.resetHeld = false) (h : tripBay b s = t) : exec c s = .next t := by
  simp only [List.mem_cons, List.not_mem_nil, or_false] at hc
  rcases hc with rfl | rfl
  · exact exec_event rfl hrun h
  · exact exec_event rfl hrun h

theorem tripBay_unpowered {b : BayId} {s : State} (h : (s.bay b).state ∉ [BayState.starting, .ready]) :
    tripBay b s = s := by
  unfold tripBay
  split
  · next hs => exact absurd (by rw [hs]; decide) h
  · next hs => exact absurd (by rw [hs]; decide) h
  · rfl

theorem surgeEnd_idle {b : BayId} {s : State} (h : (s.bay b).state ≠ .starting ∨ ∀ n, (s.bay b).timer ≠ .surge n) :
    surgeEnd b s = s := by
  unfold surgeEnd
  split
  · next n hs ht => exact (h.elim (absurd hs) fun h => absurd ht (h n))
  · rfl

theorem backoffEnd_idle {b : BayId} {s : State}
    (h : (s.bay b).state ≠ .backoff ∨ ∀ n, (s.bay b).timer ≠ .backoff n) : backoffEnd b s = s := by
  unfold backoffEnd
  split
  · next n hs ht => exact (h.elim (absurd hs) fun h => absurd ht (h n))
  · rfl

theorem stopEnd_idle {b : BayId} {s : State} (h : (s.bay b).state ≠ .stopping ∨ ∀ n, (s.bay b).timer ≠ .stop n) :
    stopEnd b s = s := by
  unfold stopEnd
  split
  · next n hs ht => exact (h.elim (absurd hs) fun h => absurd ht (h n))
  · rfl

theorem stopEnd_runs {b : BayId} {n : Nat} {s : State} (hs : (s.bay b).state = .stopping)
    (ht : (s.bay b).timer = .stop n) : stopEnd b s
    = if (s.bay b).removalIntended then enterRemovable b (s.bay b).wasPowered s
      else if (s.bay b).requeue then
        joinQueue b ((s.bay b).origin.getD .restore) (fun y => { y with lastEvent := .queued, requeue := false }) s
      else changeBay b (fun y => { y with
        state := .off, origin := none, lastEvent := .stopped, timer := .idle }) s := by
  rw [stopEnd, hs, ht]

/-- Settles O27: the trip by the state it finds and the allowance, each window's end by its state and timer. -/
theorem tripsAndWindowEnds : Obligations.TripsAndWindowEnds := by
  refine ⟨fun b s hrun c hc => ⟨fun hs hle => ?_, fun hs hlt => ?_, fun hs => ?_, fun hs => ?_⟩,
    fun b n s hrun => ⟨fun hs ht => ?_, fun hs ht => ?_, fun hs ht => ⟨fun hintended => ?_,
      fun o ho hintended hrequeue => ?_, fun hintended hrequeue => ?_⟩⟩,
    fun b s hrun => ⟨fun h => exec_event rfl hrun (surgeEnd_idle h), fun h => exec_event rfl hrun (backoffEnd_idle h),
      fun h => exec_event rfl hrun (stopEnd_idle h)⟩⟩
  · refine exec_trip hc hrun ?_
    simp only [tripBay, hs, if_pos hle]
    rfl
  · refine exec_trip hc hrun ?_
    simp only [tripBay, hs, if_neg (Nat.not_le.mpr hlt)]
    rfl
  · refine exec_trip hc hrun ?_
    simp only [tripBay, hs]
    rfl
  · exact exec_trip hc hrun (tripBay_unpowered hs)
  · refine exec_event rfl hrun ?_
    rw [surgeEnd, hs, ht]
    rfl
  · refine exec_event rfl hrun ?_
    rw [backoffEnd, hs, ht, joinQueue_eq]
  · refine exec_event rfl hrun ((stopEnd_runs hs ht).trans ?_)
    rw [if_pos hintended, enterRemovable]
    exact changeBay_congr rfl
  · refine exec_event rfl hrun ((stopEnd_runs hs ht).trans ?_)
    rw [Option.mem_def] at ho
    rw [if_neg (by simp [hintended]), if_pos hrequeue, ho, joinQueue_eq]
    rfl
  · refine exec_event rfl hrun ((stopEnd_runs hs ht).trans ?_)
    rw [if_neg (by simp [hintended]), if_neg (by simp [hrequeue])]

end Sys2Proof.Machine

/-!
PROOF. Requests on one bay: power (R26, R27), removal (R72–R78), indications (R90–R92) and its settings (R12, R13).
-/

namespace Sys2Proof.Machine

/-! ### Power (R26, R27) -/

theorem onCase_refuse {y : Bay} (h : y.state ∈ [BayState.removable, .fault, .empty, .settling]) : y.onCase = .refuse := by
  simp only [List.mem_cons, List.not_mem_nil, or_false] at h
  rcases h with h | h | h | h <;> rw [Bay.onCase, h]

theorem onCase_noChange {y : Bay} (h : y.state ∈ [BayState.queued, .starting, .ready, .backoff]) :
    y.onCase = .noChange := by
  simp only [List.mem_cons, List.not_mem_nil, or_false] at h
  rcases h with h | h | h | h <;> rw [Bay.onCase, h]

theorem onCase_stopping {y : Bay} (h : y.state = .stopping) :
    y.onCase = if y.removalIntended then .refuse else if y.requeue then .noChange else .requeue := by
  rw [Bay.onCase, h]

theorem powerOnBay_eq (o : Origin) (b : BayId) (s : State) :
    ((s.bay b).onCase = .queue → powerOnBay o b s = (queued b o (fun y => { y with lastEvent := .queued }) s, none))
    ∧ ((s.bay b).onCase = .requeue →
        powerOnBay o b s = (changeBay b (fun y => { y with requeue := true, origin := some o }) s, none))
    ∧ ((s.bay b).onCase = .noChange → powerOnBay o b s = (s, none))
    ∧ ((s.bay b).onCase = .refuse → powerOnBay o b s = (s, some .wrongState)) := by
  refine ⟨fun h => ?_, fun h => ?_, fun h => ?_, fun h => ?_⟩ <;> rw [powerOnBay, h]
  rfl

/-- Settles O21: each request by the state of the bay it finds. -/
theorem powerRequests : Obligations.PowerRequests := by
  refine ⟨fun p tag b s h hmay => ?_, fun p tag b s h hmay => ?_⟩
  · obtain ⟨hqueue, hrequeue, hsame, hrefuse⟩ := powerOnBay_eq .request b (hear p s)
    have hrefused := fun hb => answers_wrongState h hmay (i := .powerOn p tag [1, byte b.val]) rfl (hrefuse hb)
    have hkept := fun hb => answers_accepted h hmay (i := .powerOn p tag [1, byte b.val]) rfl (hsame hb)
    rw [hear_bay] at hqueue hrequeue hrefused hkept
    cases hb : (s.bay b).state
    case off => exact answers_accepted h hmay rfl (hqueue (by rw [Bay.onCase, hb]))
    case queued | starting | ready | backoff => exact hkept (onCase_noChange (by rw [hb]; decide))
    case removable | fault | empty | settling => exact hrefused (onCase_refuse (by rw [hb]; decide))
    case stopping =>
      have hcase := onCase_stopping hb
      refine ⟨fun hi => hrefused (hcase.trans ?_), fun hi hr => hkept (hcase.trans ?_),
        fun hi hr => answers_accepted h hmay rfl (hrequeue (hcase.trans ?_))⟩
      · rw [if_pos hi]
      · rw [if_neg (by simp [hi]), if_pos hr]
      · rw [if_neg (by simp [hi]), if_neg (by simp [hr])]
  · have hoff : ∀ {t}, powerOffBay b (hear p s) = (t, none) →
        Answers (.powerOff p tag [1, byte b.val]) s p 0x11 tag .ok [0] t :=
      fun ht => answers_accepted h hmay rfl ht
    cases hb : (s.bay b).state
    case empty | settling =>
      refine answers_wrongState h hmay rfl ?_
      rw [powerOffBay, hear_bay, hb]
    case stopping | off | removable | fault =>
      refine hoff ?_
      rw [powerOffBay, hear_bay, hb]
    case queued | backoff | starting | ready =>
      refine hoff ?_
      rw [powerOffBay, hear_bay, hb]
      rfl

/-! ### Removal (R72–R78) -/

/-- Settles O33: by the state of the bay the request finds. -/
theorem prepareRemovalOutcomes : Obligations.PrepareRemovalOutcomes := by
  intro p tag b s h hmay
  have hprepare : ∀ {t}, prepareBay b (hear p s) = (t, none) →
      Answers (.prepareRemoval p tag [1, byte b.val]) s p 0x12 tag .ok [0] t :=
    fun ht => answers_accepted h hmay rfl ht
  cases hb : (s.bay b).state
  case empty | settling =>
    refine answers_wrongState h hmay rfl ?_
    rw [prepareBay, hear_bay, hb]
  case stopping =>
    refine ⟨fun hi => hprepare ?_, fun hi => hprepare ?_⟩
    · rw [prepareBay, hear_bay, hb]
      exact if_pos hi
    · rw [prepareBay, hear_bay, hb]
      exact if_neg (by simp [hi])
  case removable =>
    refine hprepare ?_
    rw [prepareBay, hear_bay, hb]
  case queued | backoff | off | fault | starting | ready =>
    refine hprepare ?_
    rw [prepareBay, hear_bay, hb]
    rfl

theorem leaveRemovable_eq (b : BayId) (ev : LastEvent) (s : State) : leaveRemovable b ev s
    = if s.settings.removal.expiry = .restore ∧ (s.bay b).wasPowered = true then
        queued b .restore (fun y => { y with wasPowered := false, lastEvent := ev }) s
      else changeBay b (fun y => { y with
        state := .off, origin := none, wasPowered := false, lastEvent := ev, timer := .idle }) s := by
  refine if_congr ?_ rfl rfl
  rw [Bool.and_eq_true, decide_eq_true_eq]

theorem removalEnd_idle {b : BayId} {s : State}
    (h : (s.bay b).state ≠ .removable ∨ ∀ n, (s.bay b).timer ≠ .removal n) : removalEnd b s = s := by
  unfold removalEnd
  split
  · next n hs ht => exact (h.elim (absurd hs) fun h => absurd ht (h n))
  · rfl

theorem cancelBay_stopping {b : BayId} {s : State} (hs : (s.bay b).state = .stopping)
    (hi : (s.bay b).removalIntended = true) : cancelBay b s = (changeBay b (fun y => { y with
      removalIntended := false, wasPowered := false, requeue := y.wasPowered || y.requeue
      origin := if y.wasPowered then some .restore else y.origin }) s, none) := by
  rw [cancelBay, hs]
  exact if_pos hi

theorem cancelBay_refuses {b : BayId} {s : State}
    (h : (s.bay b).state = .stopping ∧ (s.bay b).removalIntended = false
      ∨ (s.bay b).state ∉ [BayState.removable, .stopping]) : cancelBay b s = (s, some .wrongState) := by
  rcases h with ⟨hs, hi⟩ | h
  · rw [cancelBay, hs]
    exact if_neg (by simp [hi])
  · unfold cancelBay
    split
    · next hs => exact absurd (by rw [hs]; decide) h
    · next hs => exact absurd (by rw [hs]; decide) h
    · rfl

/-- Settles O34: the window's end and the cancellation of a REMOVABLE bay leave it the same way. -/
theorem removableLeaves : Obligations.RemovableLeaves := by
  intro p tag b n s
  refine ⟨fun hrun hs ht => exec_event rfl hrun ?_, fun hrun h => exec_event rfl hrun (removalEnd_idle h),
    fun h hmay => ⟨fun hs => ?_, fun hs hi hpowered => ?_, fun hs hi hpowered => ?_, fun hs hi => ?_, fun hs => ?_⟩⟩
  · rw [removalEnd, hs, ht]
    exact leaveRemovable_eq b .windowExpired s
  · refine answers_accepted h hmay rfl ?_
    rw [cancelBay, hear_bay, hs]
    exact congrArg (·, none) (leaveRemovable_eq b .cancelled (hear p s))
  · refine answers_accepted h hmay rfl ((cancelBay_stopping (s := hear p s) hs hi).trans ?_)
    refine congrArg (·, none) (changeBay_congr ?_)
    simp only [hear_bay, hpowered, Bool.true_or, if_true]
  · refine answers_accepted h hmay rfl ((cancelBay_stopping (s := hear p s) hs hi).trans ?_)
    refine congrArg (·, none) (changeBay_congr ?_)
    simp only [hear_bay, hpowered, Bool.false_or, Bool.false_eq_true, if_false]
  · exact answers_wrongState h hmay rfl (cancelBay_refuses (.inl ⟨hs, hi⟩))
  · exact answers_wrongState h hmay rfl (cancelBay_refuses (.inr hs))

/-! ### Indications (R90–R92) -/

theorem indSetOf_driveBound (i : Byte) : (indSetOf i).driveBound = true ↔ 2 ≤ i.toNat % 32 := by
  revert i
  decide

/-- SET INDICATION on one bay, from either role (R90, R158). -/
theorem setIndication_one {p : Port} {s t : State} (h : s.Taking p) {b : BayId} {i d0 d1 : Byte} {r : Option Result}
    (hi : i.toNat % 32 ≠ 0) (hact : indicateBay p (indSetOf i) (d0.toNat + 256 * d1.toNat) b (hear p s) = (t, r))
    (tag : Byte) : Answers (.setIndication p tag [1, byte b.val, i, d0, d1]) s p 0x30 tag (r.getD .ok)
      (match r with | none => [0] | some c => [1, byte b.val, byte c.code]) t := by
  refine answers_anyPort h rfl (readSetIndication_list (bays := [byte b.val]) (by simp) (by simp) i d0 d1) ?_
  rw [setIndicationAct, if_pos ((indSetOf_nonempty i).mpr hi)]
  cases r with
  | none => exact multiBay_accepts hact
  | some c => exact multiBay_refuses hact

theorem setIndication_refused {p : Port} {s : State} (h : s.Taking p) (b : BayId) {i : Byte} (hi : i.toNat % 32 = 0)
    (d0 d1 tag : Byte) :
    Answers (.setIndication p tag [1, byte b.val, i, d0, d1]) s p 0x30 tag .badValue [] (hear p s)
    ∧ Answers (.clearIndication p tag [1, byte b.val, i]) s p 0x31 tag .badValue [] (hear p s) := by
  have hempty : ¬ (indSetOf i).nonempty = true := fun hn => (indSetOf_nonempty i).mp hn hi
  refine ⟨answers_anyPort h rfl (readSetIndication_list (bays := [byte b.val]) (by simp) (by simp) i d0 d1) ?_,
    answers_anyPort h rfl (readClearIndication_list (bays := [byte b.val]) (by simp) (by simp) i) ?_⟩
  · rw [setIndicationAct, if_neg hempty, refuse]
  · rw [clearIndicationAct, if_neg hempty, refuse]

/-- Settles O35: the sets by what the request names, the expiry by what the timer shows. -/
theorem hostIndications : Obligations.HostIndications := by
  intro p tag i d0 d1 b s
  refine ⟨fun h => ⟨fun hi => setIndication_refused h b hi d0 d1 tag, fun hi hb => ?_, fun hi hb => ?_, fun hi => ?_⟩,
    fun hrun => ⟨fun hne => exec_event rfl hrun (if_neg hne), fun hdue => exec_event rfl hrun ((if_pos hdue).trans ?_)⟩⟩
  · refine setIndication_one h (r := some .wrongState) (by omega) ?_ tag
    rw [indicateBay, hear_bay, (noCarrier_iff _).mpr hb, (indSetOf_driveBound i).mpr hi]
    rfl
  · have hnot : ¬ ((s.bay b).state.noCarrier && (indSetOf i).driveBound) = true := by
      rw [Bool.and_eq_true, noCarrier_iff, indSetOf_driveBound]
      rintro ⟨hc, hd⟩
      rcases hb with hb | hb
      · omega
      · exact hb hc
    refine setIndication_one h (r := none) hi ?_ tag
    rw [indicateBay, hear_bay, if_neg hnot]
    rfl
  · refine answers_anyPort h rfl (readClearIndication_list (bays := [byte b.val]) (by simp) (by simp) i) ?_
    rw [clearIndicationAct, if_pos ((indSetOf_nonempty i).mpr hi)]
    exact multiBay_accepts rfl
  · refine changeBay_congr ?_
    simp only [Bay.unindicated, IndSet.minus, IndSet.empty, Bool.not_true, Bool.and_false, Bool.not_false,
      Bool.and_true, if_true]

/-! ### The settings of a bay (R12, R13) -/

theorem takesProfile_iff (x : BayState) : x.takesProfile = true ↔ x ∈ [BayState.off, .queued, .fault, .removable] := by
  cases x <;> decide

/-- SET BAY's values as stored (R12). -/
def BaySettings.stored (m z l sh be : Byte) (c : BaySettings) : BaySettings :=
  { zone := if m.toNat.testBit 1 = true then (fourOf z).getD 0 else c.zone
    level := if m.toNat.testBit 2 = true then ⟨min l.toNat 7, by omega⟩ else c.level
    sheddable := if m.toNat.testBit 3 = true then decide (sh = 1) else c.sheddable
    buttonEnabled := if m.toNat.testBit 4 = true then decide (be = 1) else c.buttonEnabled }

/-- The bay record SET BAY leaves (R12, R14, R18). -/
def Bay.stored (m pr be : Byte) (y : Bay) : Bay :=
  { y with
    profile := if m.toNat.testBit 0 = true then (profileOf pr).getD 0 else y.profile
    override := decide (m.toNat.testBit 0 = true) || y.override
    attention := y.attention && (!decide (m.toNat.testBit 4 = true) || decide (be = 1)) }

theorem fourOf_of_lt {x : Byte} (h : x.toNat < 4) : fourOf x = some ⟨x.toNat, h⟩ := by
  rw [fourOf, dif_pos h]

theorem profileOf_of_lt {x : Byte} (h : x.toNat < 8) : profileOf x = some ⟨x.toNat, h⟩ := by
  rw [profileOf, dif_pos h]

theorem getD_ite {α : Type} (c : Prop) [Decidable c] (x y : α) :
    (if c then some x else none).getD y = if c then x else y := by
  split <;> rfl

theorem setBayWrite_apply {m pr z sh be : Byte} (h : ¬ setBayBad m pr z sh be) (l : Byte) (c : BaySettings) :
    (setBayWrite m pr z l sh be).apply c = c.stored m z l sh be := by
  obtain ⟨-, hz, -, -⟩ := by simpa only [setBayBad, not_or] using h
  have hzone : (setBayWrite m pr z l sh be).zone.getD c.zone = (c.stored m z l sh be).zone := by
    by_cases hbit : m.toNat.testBit 1 = true
    · have hlt : z.toNat < 4 := Nat.not_le.mp fun hx => hz ⟨hbit, hx⟩
      simp [setBayWrite, BaySettings.stored, hbit, fourOf_of_lt hlt]
    · simp [setBayWrite, BaySettings.stored, hbit]
  rw [BayWrite.apply, hzone]
  simp only [setBayWrite, BaySettings.stored, getD_ite]

theorem setBayWrite_applyBay {m pr z sh be : Byte} (h : ¬ setBayBad m pr z sh be) (l : Byte) (y : Bay) :
    (setBayWrite m pr z l sh be).applyBay y = y.stored m pr be := by
  obtain ⟨hpr, -, -, -⟩ := by simpa only [setBayBad, not_or] using h
  by_cases hbit : m.toNat.testBit 0 = true
  · have hlt : pr.toNat < 8 := Nat.not_le.mp fun hx => hpr ⟨hbit, hx⟩
    by_cases hbe : m.toNat.testBit 4 = true <;>
      simp [BayWrite.applyBay, setBayWrite, Bay.stored, hbit, hbe, profileOf_of_lt hlt, Bay.heldAttention]
  · by_cases hbe : m.toNat.testBit 4 = true <;>
      simp [BayWrite.applyBay, setBayWrite, Bay.stored, hbit, hbe, Bay.heldAttention]

/-- The state SET BAY leaves of bay `b` before its queue entry moves (R12). -/
def State.bayStored (b : BayId) (c : BaySettings) (y : Bay) (s : State) : State :=
  let t := { s with settings := { s.settings with bays := s.settings.bays.set b c }, bays := s.bays.set b y }
  if t.report b = s.report b then t else post (.bay b) t

theorem writeRecord_eq (w : BayWrite) (b : BayId) (s : State) :
    postBay b (s.report b) (setBay b (w.applyBay (s.bay b))
      { s with settings := { s.settings with bays := s.settings.bays.set b (w.apply (s.bayCfg b)) } })
      = s.bayStored b (w.apply (s.bayCfg b)) (w.applyBay (s.bay b)) := by
  rw [postBay, State.bayStored]
  by_cases h : (setBay b (w.applyBay (s.bay b))
      { s with settings := { s.settings with bays := s.settings.bays.set b (w.apply (s.bayCfg b)) } }).report b
        = s.report b
  · rw [decide_eq_false (not_not.mpr h), postIf_false]
    exact (if_pos h).symm
  · rw [decide_eq_true h, postIf_true]
    exact (if_neg h).symm

theorem writeBay_wrong {w : BayWrite} {b : BayId} {s : State}
    (h : (w.profile.isSome && !(s.bay b).state.takesProfile) = true) : writeBay w b s = (s, some .wrongState) :=
  if_pos h

theorem writeBay_stays {w : BayWrite} {b : BayId} {s : State}
    (h : ¬ (w.profile.isSome && !(s.bay b).state.takesProfile) = true)
    (hlevel : (s.bay b).state ≠ .queued ∨ (w.apply (s.bayCfg b)).level = (s.bayCfg b).level) :
    writeBay w b s = (s.bayStored b (w.apply (s.bayCfg b)) (w.applyBay (s.bay b)), none) := by
  have hmove : ¬ ((s.bay b).state = .queued && (w.apply (s.bayCfg b)).level != (s.bayCfg b).level) = true := by
    rw [Bool.and_eq_true, decide_eq_true_eq, bne_iff_ne]
    exact fun hc => hlevel.elim (absurd hc.1) hc.2
  rw [← writeRecord_eq]
  exact (if_neg h).trans (if_neg hmove)

theorem writeBay_moves {w : BayWrite} {b : BayId} {s : State}
    (h : ¬ (w.profile.isSome && !(s.bay b).state.takesProfile) = true) (hq : (s.bay b).state = .queued)
    (hlevel : (w.apply (s.bayCfg b)).level ≠ (s.bayCfg b).level) :
    writeBay w b s = (opportunity { s.bayStored b (w.apply (s.bayCfg b)) (w.applyBay (s.bay b)) with
      queue := moveEntry b (w.apply (s.bayCfg b)).level s.queue }, none) := by
  have hmove : ((s.bay b).state = .queued && (w.apply (s.bayCfg b)).level != (s.bayCfg b).level) = true := by
    rw [Bool.and_eq_true, decide_eq_true_eq, bne_iff_ne]
    exact ⟨hq, hlevel⟩
  have hqueue : (s.bayStored b (w.apply (s.bayCfg b)) (w.applyBay (s.bay b))).queue = s.queue := by
    rw [State.bayStored]
    split <;> rfl
  refine ((if_neg h).trans (if_pos hmove)).trans ?_
  rw [writeRecord_eq, hqueue]

theorem moveEntry_of_mem {b : BayId} {q : List Entry} {e : Entry} (he : e ∈ q) (hb : e.bay = b)
    (hnodup : (q.map (·.bay)).Nodup) (level : Fin 8) : moveEntry b level q
      = insertEnd { e with level := level, bypass := 0 } (q.filter fun x => x.bay ≠ b) := by
  have hfind : q.find? (fun x => x.bay = b) = some e := by
    cases h : q.find? (fun x => x.bay = b) with
    | none => exact absurd hb (by simpa using List.find?_eq_none.mp h e he)
    | some x =>
      have hx : x.bay = b := by simpa using List.find?_some h
      rw [List.inj_on_of_nodup_map hnodup (List.mem_of_find?_eq_some h) he (hx.trans hb.symm)]
  simp only [moveEntry, hfind]
  rfl

/-- SET BAY on one bay the requester may act on, as its write takes the bay. -/
theorem setBay_one {p : Port} {s : State} (h : s.Taking p) {b : BayId} (hmay : s.mayAct p b = true)
    {m pr z sh be : Byte} (hm : m.toNat % 32 ≠ 0) (hgood : ¬ setBayBad m pr z sh be) (tag l : Byte) {t : State} :
    (writeBay (setBayWrite m pr z l sh be) b (hear p s) = (t, none) →
      Answers (.setBay p tag [1, byte b.val, m, pr, z, l, sh, be]) s p 0x16 tag .ok
        (0 :: setBayStored m pr z l sh be) t)
    ∧ (writeBay (setBayWrite m pr z l sh be) b (hear p s) = (t, some .wrongState) →
      Answers (.setBay p tag [1, byte b.val, m, pr, z, l, sh, be]) s p 0x16 tag .wrongState
        ([1, byte b.val, 7] ++ setBayStored m pr z l sh be) t) := by
  have htaken := setBay_taken h (bays := [byte b.val]) (by simp) (by simp) hm hgood tag l
  have howned : owned p (writeBay (setBayWrite m pr z l sh be)) b (hear p s)
      = writeBay (setBayWrite m pr z l sh be) b (hear p s) := if_pos (show (hear p s).mayAct p b = true from hmay)
  refine ⟨fun hw => ?_, fun hw => ?_⟩
  · rw [multiBay_accepts (howned.trans hw)] at htaken
    exact htaken
  · rw [multiBay_refuses (howned.trans hw)] at htaken
    exact htaken

theorem setBayWrite_profile {m pr z sh be : Byte} (h : ¬ setBayBad m pr z sh be) (l : Byte) :
    (setBayWrite m pr z l sh be).profile.isSome = m.toNat.testBit 0 := by
  obtain ⟨hpr, -, -, -⟩ := by simpa only [setBayBad, not_or] using h
  by_cases hbit : m.toNat.testBit 0 = true
  · have hlt : pr.toNat < 8 := Nat.not_le.mp fun hx => hpr ⟨hbit, hx⟩
    simp [setBayWrite, hbit, profileOf_of_lt hlt]
  · simp [setBayWrite, hbit]

/-- Settles O19: the values are judged first, the bay's state next, and a QUEUED bay of changed level moves. -/
theorem setBayWrites : Obligations.SetBayWrites := by
  intro p tag m pr z l sh be b s h hmay hm
  have hwrong : ¬ setBayBad m pr z sh be →
      (((setBayWrite m pr z l sh be).profile.isSome && !((hear p s).bay b).state.takesProfile) = true
        ↔ m.toNat.testBit 0 = true ∧ (s.bay b).state ∉ [BayState.off, .queued, .fault, .removable]) := fun hgood => by
    rw [setBayWrite_profile hgood, Bool.and_eq_true, Bool.not_eq_true', ← Bool.not_eq_true, takesProfile_iff, hear_bay]
  have hcfg : (hear p s).bayCfg b = s.bayCfg b := rfl
  have hlevel : (if m.toNat.testBit 2 = true then byte (min l.toNat 7) else 0xFF)
      = if m.toNat.testBit 2 = true then byte ((s.bayCfg b).stored m z l sh be).level.val else 0xFF := by
    refine if_ctx_congr Iff.rfl (fun hbit => ?_) fun _ => rfl
    simp only [BaySettings.stored, if_pos hbit]
  have hstored : setBayStored m pr z l sh be = [if m.toNat.testBit 0 = true then pr else 0xFF,
      if m.toNat.testBit 1 = true then z else 0xFF,
      if m.toNat.testBit 2 = true then byte ((s.bayCfg b).stored m z l sh be).level.val else 0xFF,
      if m.toNat.testBit 3 = true then sh else 0xFF, if m.toNat.testBit 4 = true then be else 0xFF] := by
    rw [setBayStored, hlevel]
  refine ⟨fun hbad => setBay_refused h (bays := [byte b.val]) (by simp) (by simp) hm hbad tag l,
    fun hgood hw => ?_, fun hgood hw hstay => ?_, fun hgood hw hq hne e he heb hnodup => ?_⟩
  · have hans := (setBay_one h hmay hm hgood tag l).2 (writeBay_wrong ((hwrong hgood).mpr hw))
    rw [hstored] at hans
    exact hans
  · have hans := (setBay_one h hmay hm hgood tag l).1 (writeBay_stays (fun hc => hw ((hwrong hgood).mp hc)) (by
      rw [setBayWrite_apply hgood, hear_bay, hcfg]
      exact hstay))
    rw [hstored, setBayWrite_apply hgood, setBayWrite_applyBay hgood] at hans
    exact hans
  · have hans := (setBay_one h hmay hm hgood tag l).1 (writeBay_moves (fun hc => hw ((hwrong hgood).mp hc)) hq (by
      rw [setBayWrite_apply hgood, hcfg]
      exact hne))
    rw [hstored, setBayWrite_apply hgood, setBayWrite_applyBay hgood, hcfg,
      moveEntry_of_mem (q := (hear p s).queue) he heb hnodup] at hans
    exact hans

end Sys2Proof.Machine

/-!
PROOF. The settings requests of the CONTROLLING port (R9, R24, R52, R54, R71, R120, R121, R141), the power-good lines
(R51), the lights' requests and timers (R86, R94, R97), and notes (R151, R152).
-/

namespace Sys2Proof.Machine

/-- A request of the CONTROLLING port whose act comes to answer `a` is answered so. -/
theorem answers_commanding {α : Type} {p : Port} {s t : State} (h : s.Commanding p) {i : Instr} {code : Nat} {tag : Byte}
    {args : Option α} {act : α → State → Answer}
    (hi : exec i s = .next (request .controlling code p tag args act s)) {a : α} (hargs : args = some a) {r : Result}
    {pl : List Byte} (hact : act a (hear p s) = { state := t, result := r, payload := pl }) :
    Answers i s p code tag r pl t := by
  rw [Answers, hi, hargs, request_commanding h, hact]

/-! ### Values that are present or absent -/

theorem writeNum_present (lo hi mask i n old : Nat) :
    writeNum lo hi (present mask i n) old = if mask.testBit i = true then max lo (min hi n) else old := by
  unfold present
  split <;> rfl

theorem writeNum_zero_present (hi mask i n old : Nat) :
    writeNum 0 hi (present mask i n) old = if mask.testBit i = true then min hi n else old := by
  rw [writeNum_present, Nat.zero_max]

/-- The codes 0 and 1 name the values `u` and `v`, and no other code names any. -/
def TwoCodes {α : Type} (f : Nat → Option α) (u v : α) : Prop :=
  f 0 = some u ∧ f 1 = some v ∧ ∀ n, 2 ≤ n → f n = none

theorem Mode.twoCodes : TwoCodes Mode.ofCode .strict .fill := ⟨rfl, rfl, fun n hn => by unfold Mode.ofCode; grind⟩
theorem InsertionPolicy.twoCodes : TwoCodes InsertionPolicy.ofCode .manual .auto :=
  ⟨rfl, rfl, fun n hn => by unfold InsertionPolicy.ofCode; grind⟩
theorem RestartPolicy.twoCodes : TwoCodes RestartPolicy.ofCode .hold .stage :=
  ⟨rfl, rfl, fun n hn => by unfold RestartPolicy.ofCode; grind⟩
theorem ReservePolicy.twoCodes : TwoCodes ReservePolicy.ofCode .none .one :=
  ⟨rfl, rfl, fun n hn => by unfold ReservePolicy.ofCode; grind⟩
theorem ExpiryPolicy.twoCodes : TwoCodes ExpiryPolicy.ofCode .remainOff .restore :=
  ⟨rfl, rfl, fun n hn => by unfold ExpiryPolicy.ofCode; grind⟩
theorem ButtonAction.twoCodes : TwoCodes ButtonAction.ofCode .notify .direct :=
  ⟨rfl, rfl, fun n hn => by unfold ButtonAction.ofCode; grind⟩
theorem yesNo_twoCodes : TwoCodes yesNoOfCode false true := ⟨rfl, rfl, fun n hn => by unfold yesNoOfCode; grind⟩

section TwoCodes

variable {α : Type} {f : Nat → Option α} {u v : α}

theorem knownCode_present (h : TwoCodes f u v) (mask i n : Nat) :
    knownCode f (present mask i n) = true ↔ ¬ (mask.testBit i = true ∧ 2 ≤ n) := by
  obtain ⟨h0, h1, hge⟩ := h
  by_cases hbit : mask.testBit i = true
  · rcases n with _ | _ | n
    · simp [present, hbit, knownCode, h0]
    · simp [present, hbit, knownCode, h1]
    · simp [present, hbit, knownCode, hge (n + 2) (by omega)]
  · simp [present, hbit, knownCode]

theorem writeCode_present (h : TwoCodes f u v) {mask i : Nat} {x : Byte}
    (hgood : ¬ (mask.testBit i = true ∧ 2 ≤ x.toNat)) (old : α) :
    writeCode f (present mask i x.toNat) old = if mask.testBit i = true then (if x = 0 then u else v) else old := by
  obtain ⟨h0, h1, -⟩ := h
  by_cases hbit : mask.testBit i = true
  · have hlt : x.toNat < 2 := Nat.not_le.mp fun hx => hgood ⟨hbit, hx⟩
    rcases Nat.lt_succ_iff_lt_or_eq.mp hlt with hx | hx
    · obtain rfl : x = 0 := BitVec.eq_of_toNat_eq (by simpa using hx)
      simp [writeCode, present, hbit, h0]
    · obtain rfl : x = 1 := BitVec.eq_of_toNat_eq (by simpa using hx)
      simp [writeCode, present, hbit, h1]
  · simp [writeCode, present, hbit]

end TwoCodes

theorem writeYesNo_present {mask i : Nat} {x : Byte} (hgood : ¬ (mask.testBit i = true ∧ 2 ≤ x.toNat)) (old : Bool) :
    writeCode yesNoOfCode (present mask i x.toNat) old = if mask.testBit i = true then decide (x = 1) else old := by
  rw [writeCode_present yesNo_twoCodes hgood]
  refine if_ctx_congr Iff.rfl (fun hbit => ?_) fun _ => rfl
  have hlt : x.toNat < 2 := Nat.not_le.mp fun hx => hgood ⟨hbit, hx⟩
  rcases Nat.lt_succ_iff_lt_or_eq.mp hlt with hx | hx
  · obtain rfl : x = 0 := BitVec.eq_of_toNat_eq (by simpa using hx)
    rfl
  · obtain rfl : x = 1 := BitVec.eq_of_toNat_eq (by simpa using hx)
    rfl

theorem anyPresent_byte {m : Byte} (h : m ≠ 0) : anyPresent m.toNat 8 = true := by
  refine bne_iff_ne.mpr fun h0 => h (BitVec.eq_of_toNat_eq ?_)
  have hlt := m.isLt
  simpa using (Nat.mod_eq_of_lt hlt).symm.trans h0

/-! ### SET PROFILE (R9) -/

theorem profileInUse_iff (s : State) (i : ProfileId) : s.profileInUse i = true
    ↔ ∃ b, (s.bay b).profile = i ∧ (s.bay b).state ∈ [BayState.starting, .ready] := by
  simp only [State.profileInUse, List.any_eq_true, mem_allBays, true_and, Bool.and_eq_true, decide_eq_true_eq,
    powered_iff]

/-- Settles O20: the index is judged first, the profile's use next, and the values are clamped. -/
theorem setProfileReplaces : Obligations.SetProfileReplaces := by
  intro p tag x u0 u1 t0 t1 r0 r1 h a w0 w1 s hcmd
  refine ⟨fun hx => answers_commanding hcmd rfl rfl ?_, fun i hx => ⟨fun hused => answers_commanding hcmd rfl rfl ?_,
    fun hfree => answers_commanding hcmd rfl rfl ?_⟩⟩
  · simp only [setProfileAct, profileOf_of_ge hx, refuse]
  · have huse : (hear p s).profileInUse i = true := (profileInUse_iff (hear p s) i).mpr hused
    simp only [setProfileAct, profileOf_of_val hx, huse, if_true, refuse]
  · have huse : ¬ (hear p s).profileInUse i = true := fun hc => by
      obtain ⟨b, hprofile, hpowered⟩ := (profileInUse_iff (hear p s) i).mp hc
      exact hfree b hprofile hpowered
    simp only [setProfileAct, profileOf_of_val hx, if_neg huse, Profile.clamped, clamp, Nat.zero_max, readLe16]
    rfl

/-! ### SET SCHEDULER, SET REMOVAL, SET PORT SETTINGS (R25, R71, R141) -/

theorem schedulerOpens_iff (was now : SchedulerSettings) : schedulerOpens was now = true
    ↔ ¬ (now.mode = was.mode ∧ now.startCap = was.startCap ∧ now.bypassLimit = was.bypassLimit) := by
  simp only [schedulerOpens, Bool.or_eq_true, bne_iff_ne, ne_eq, eq_comm (a := was.mode), eq_comm (a := was.startCap),
    eq_comm (a := was.bypassLimit)]
  tauto

theorem SchedulerSettings.block_eq (c : SchedulerSettings) : c.block
    = [byte (if c.mode = .strict then 0 else 1), byte c.startCap, byte c.gap, byte c.bypassLimit, byte c.settle,
      byte c.backoff, byte (if c.insertion = .manual then 0 else 1), byte (if c.restart = .hold then 0 else 1)] := by
  rw [SchedulerSettings.block, Mode.code_eq, InsertionPolicy.code_eq, RestartPolicy.code_eq]

theorem RemovalSettings.block_eq (c : RemovalSettings) : c.block
    = le16 c.window ++ [byte (if c.expiry = .remainOff then 0 else 1), byte (if c.action = .notify then 0 else 1)] := by
  rw [RemovalSettings.block, ExpiryPolicy.code_eq, ButtonAction.code_eq]

theorem PortSettings.block_eq (c : PortSettings) :
    c.block = [byte (if c.preferred = .a then 1 else 2), byte c.silenceLimit] := by
  rw [PortSettings.block]
  cases c.preferred <;> rfl

theorem BudgetSettings.block_eq (c : BudgetSettings) : c.block
    = [byte (if c.reserve = .none then 0 else 1), byte c.derate] ++ le16 c.base ++ [byte c.shedDelay] := by
  rw [BudgetSettings.block, ReservePolicy.code_eq]

theorem setSchedulerAct_valid {a : SetSchedulerArgs} {s : State} {new : SchedulerSettings} (hvalid : a.valid = true)
    (hnew : a.apply s.settings.scheduler = new) : setSchedulerAct a s = report new.block
      (if new.mode = s.settings.scheduler.mode ∧ new.startCap = s.settings.scheduler.startCap
          ∧ new.bypassLimit = s.settings.scheduler.bypassLimit
        then { s with settings := { s.settings with scheduler := new } }
        else opportunity { s with settings := { s.settings with scheduler := new } }) := by
  rw [setSchedulerAct, if_pos hvalid, hnew]
  refine congrArg (report new.block) ?_
  by_cases hsame : new.mode = s.settings.scheduler.mode ∧ new.startCap = s.settings.scheduler.startCap
      ∧ new.bypassLimit = s.settings.scheduler.bypassLimit
  · rw [if_pos hsame, if_neg fun hc => (schedulerOpens_iff _ _).mp hc hsame]
  · rw [if_neg hsame, if_pos ((schedulerOpens_iff _ _).mpr hsame)]

theorem storedWindow_present (mask i n old : Nat) :
    (present mask i n).elim old storedWindow
      = if mask.testBit i = true then (if n = 0 then 0 else max 10 (min 3600 n)) else old := by
  unfold present
  split <;> rfl

theorem setRemovalAct_valid {a : Option Nat × Option Nat × Option Nat} {s : State} {new : RemovalSettings}
    (hvalid : (knownCode ExpiryPolicy.ofCode a.2.1 && knownCode ButtonAction.ofCode a.2.2) = true)
    (hwindow : a.1.elim s.settings.removal.window storedWindow = new.window)
    (hexpiry : writeCode ExpiryPolicy.ofCode a.2.1 s.settings.removal.expiry = new.expiry)
    (haction : writeCode ButtonAction.ofCode a.2.2 s.settings.removal.action = new.action) :
    setRemovalAct a s = report new.block { s with settings := { s.settings with removal := new } } := by
  obtain ⟨window, expiry, action⟩ := new
  obtain ⟨w, e⟩ := a
  subst hwindow hexpiry haction
  rw [setRemovalAct, if_pos hvalid]
  cases w <;> rfl

theorem setPortSettingsAct_valid {a : Option Nat × Option Nat} {s : State} {new : PortSettings}
    (hvalid : knownCode portOfCode a.1 = true)
    (hpreferred : writeCode portOfCode a.1 s.settings.ports.preferred = new.preferred)
    (hlimit : writeNum 2 60 a.2 s.settings.ports.silenceLimit = new.silenceLimit) :
    setPortSettingsAct a s = report new.block { s with settings := { s.settings with ports := new } } := by
  obtain ⟨preferred, limit⟩ := new
  subst hpreferred hlimit
  rw [setPortSettingsAct, if_pos hvalid]

/-- The codes 1 and 2 name the ports (11.3). -/
theorem knownCode_port (mask i : Nat) (x : Byte) :
    knownCode portOfCode (present mask i x.toNat) = true ↔ ¬ (mask.testBit i = true ∧ x ≠ 1 ∧ x ≠ 2) := by
  by_cases hbit : mask.testBit i = true
  · simp only [present, hbit, if_true, knownCode, true_and]
    revert x
    decide
  · simp [present, hbit, knownCode]

theorem writeCode_port {mask i : Nat} {x : Byte} (hgood : ¬ (mask.testBit i = true ∧ x ≠ 1 ∧ x ≠ 2)) (old : Port) :
    writeCode portOfCode (present mask i x.toNat) old
      = if mask.testBit i = true then (if x = 1 then .a else .b) else old := by
  by_cases hbit : mask.testBit i = true
  · have hx : x = 1 ∨ x = 2 := by
      by_contra hne
      exact hgood ⟨hbit, not_or.mp hne⟩
    rcases hx with rfl | rfl <;> simp [writeCode, present, hbit, portOfCode]
  · simp [writeCode, present, hbit]

/-- SET SCHEDULER as it is read. -/
def schedulerArgs (m mo sc ga bl se ba ins re : Byte) : SetSchedulerArgs :=
  { mode := present m.toNat 0 mo.toNat, startCap := present m.toNat 1 sc.toNat, gap := present m.toNat 2 ga.toNat
    bypassLimit := present m.toNat 3 bl.toNat, settle := present m.toNat 4 se.toNat
    backoff := present m.toNat 5 ba.toNat, insertion := present m.toNat 6 ins.toNat
    restart := present m.toNat 7 re.toNat }

theorem readSetScheduler_eq {m : Byte} (hm : m ≠ 0) (mo sc ga bl se ba ins re : Byte) :
    readSetScheduler [m, mo, sc, ga, bl, se, ba, ins, re] = some (schedulerArgs m mo sc ga bl se ba ins re) :=
  if_pos (anyPresent_byte hm)

theorem schedulerArgs_valid (m mo sc ga bl se ba ins re : Byte) :
    (schedulerArgs m mo sc ga bl se ba ins re).valid = true
      ↔ ¬ ((m.toNat.testBit 0 = true ∧ 2 ≤ mo.toNat) ∨ (m.toNat.testBit 6 = true ∧ 2 ≤ ins.toNat)
        ∨ (m.toNat.testBit 7 = true ∧ 2 ≤ re.toNat)) := by
  simp only [SetSchedulerArgs.valid, schedulerArgs, Bool.and_eq_true, knownCode_present Mode.twoCodes,
    knownCode_present InsertionPolicy.twoCodes, knownCode_present RestartPolicy.twoCodes, not_or, and_assoc]

/-- Settles O22: the values are judged first, and the present ones stored. -/
theorem schedulerRemovalAndPortSettings : Obligations.SchedulerRemovalAndPortSettings := by
  refine ⟨fun p tag m mo sc ga bl se ba ins re s h hm => ⟨fun hbad => ?_, fun hgood => ?_⟩,
    fun p tag m w0 w1 x y s h => ⟨fun hm => ⟨fun hbad => ?_, fun hgood => ?_⟩, fun hm => ⟨fun hbad => ?_, fun hgood => ?_⟩⟩⟩
  · refine answers_commanding h rfl (readSetScheduler_eq hm mo sc ga bl se ba ins re) ?_
    rw [setSchedulerAct, if_neg fun hv => (schedulerArgs_valid ..).mp hv hbad, refuse]
  · have hvalid := (schedulerArgs_valid m mo sc ga bl se ba ins re).mpr hgood
    obtain ⟨hmode, hins, hres⟩ := by simpa only [not_or] using hgood
    refine answers_commanding h rfl (readSetScheduler_eq hm mo sc ga bl se ba ins re)
      ((setSchedulerAct_valid hvalid ?_).trans (by rw [SchedulerSettings.block_eq]; rfl))
    simp only [SetSchedulerArgs.apply, schedulerArgs, writeCode_present Mode.twoCodes hmode,
      writeCode_present InsertionPolicy.twoCodes hins, writeCode_present RestartPolicy.twoCodes hres, writeNum_present,
      Nat.zero_max]
    rfl
  · have hinvalid : ¬ (knownCode ExpiryPolicy.ofCode (present m.toNat 1 x.toNat)
        && knownCode ButtonAction.ofCode (present m.toNat 2 y.toNat)) = true := by
      rw [Bool.and_eq_true, knownCode_present ExpiryPolicy.twoCodes, knownCode_present ButtonAction.twoCodes, ← not_or]
      exact not_not.mpr hbad
    refine answers_commanding h rfl (if_pos (bne_iff_ne.mpr hm)) ?_
    rw [setRemovalAct, if_neg hinvalid, refuse]
  · obtain ⟨hexpiry, haction⟩ := not_or.mp hgood
    refine answers_commanding h rfl (if_pos (bne_iff_ne.mpr hm)) ((setRemovalAct_valid ?_ ?_ ?_ ?_).trans
      (by rw [RemovalSettings.block_eq]; rfl))
    · rw [Bool.and_eq_true, knownCode_present ExpiryPolicy.twoCodes, knownCode_present ButtonAction.twoCodes]
      exact ⟨hexpiry, haction⟩
    · exact storedWindow_present ..
    · exact writeCode_present ExpiryPolicy.twoCodes hexpiry _
    · exact writeCode_present ButtonAction.twoCodes haction _
  · have hinvalid : ¬ knownCode portOfCode (present m.toNat 0 x.toNat) = true := fun hk =>
      (knownCode_port ..).mp hk hbad
    refine answers_commanding h rfl (if_pos (bne_iff_ne.mpr hm)) ?_
    rw [setPortSettingsAct, if_neg hinvalid, refuse]
  · refine answers_commanding h rfl (if_pos (bne_iff_ne.mpr hm)) ((setPortSettingsAct_valid
      ((knownCode_port ..).mpr hgood) ?_ ?_).trans (by rw [PortSettings.block_eq]; rfl))
    · exact writeCode_port hgood _
    · exact writeNum_present ..

end Sys2Proof.Machine

/-!
PROOF. SET SUPPLY and SET BUDGET (R52, R54), the power-good lines (R51), SET CURVE and SET SENSOR MAP (R120, R121), the
lights' requests and timers (R86, R94, R97), and notes (R151, R152).
-/

namespace Sys2Proof.Machine

/-! ### The power-good lines (R51) -/

theorem setGood_same {i : SupplyId} {g : Bool} {s : State} (h : (s.supplies.get i).good = g) :
    setGood i g s = { s with supplies := s.supplies.set i { good := g, qualify := none } } := if_pos h

theorem setGood_changes {i : SupplyId} {g : Bool} {s : State} (h : (s.supplies.get i).good = !g) :
    setGood i g s = if (s.settings.supplies.get i).installed
      then supplyEvent (post (.supply i) { s with supplies := s.supplies.set i { good := g, qualify := none } })
      else post (.supply i) { s with supplies := s.supplies.set i { good := g, qualify := none } } :=
  if_neg (by simp [h])

/-- Settles O29: the fall, the rise and the timer's end by what the supply shows. -/
theorem powerGoodLines : Obligations.PowerGoodLines := by
  intro i s hrun
  refine ⟨fun hgood => exec_event rfl hrun (setGood_changes hgood), fun hfailed => exec_event rfl hrun (setGood_same hfailed),
    fun hfailed hidle => exec_event rfl hrun ?_, fun h => exec_event rfl hrun ?_, fun hfailed hqualify => exec_event rfl hrun ?_,
    fun hidle => exec_event rfl hrun ?_⟩
  · have hstart : (!(s.supplies.get i).good && (s.supplies.get i).qualify.isNone) = true := by simp [hfailed, hidle]
    refine (if_pos hstart).trans ?_
    rw [setSupply, hfailed]
    rfl
  · refine if_neg ?_
    rcases h with hgood | hqualify
    · simp [hgood]
    · simp [Option.isSome_iff_ne_none.mp hqualify]
  · exact (if_pos hqualify).trans (setGood_changes (g := true) hfailed)
  · exact if_neg (by simp [hidle])

/-! ### SET SUPPLY and SET BUDGET (R52, R54) -/

/-- A supply event changes no setting and no supply. -/
theorem supplyEvent_keeps (s : State) : (supplyEvent s).settings = s.settings ∧ (supplyEvent s).supplies = s.supplies := by
  have hjudge : (judgeCollapse s).settings = s.settings ∧ (judgeCollapse s).supplies = s.supplies := by
    have honly := StopsFrom.only (stopAll_stopsFrom s)
    unfold judgeCollapse
    generalize stopAll s = u at honly
    rw [honly]
    split <;> split <;> exact ⟨rfl, rfl⟩
  have hrecompute : (recompute (judgeCollapse s)).settings = s.settings
      ∧ (recompute (judgeCollapse s)).supplies = s.supplies := by
    rw [recompute_settings, recompute_supplies]
    exact hjudge
  unfold supplyEvent
  dsimp only
  generalize recompute (judgeCollapse s) = t at hrecompute
  split
  · refine opportunity_keeps (P := fun u => u.settings = s.settings ∧ u.supplies = s.supplies) (fun u v hu hv => ?_)
      hrecompute
    obtain ⟨e, q, -, -, -, -, -, hv⟩ := admitOne_cases hv
    rw [hv, startBay_settings, (startBay_supplies_zones e.bay q u).1]
    exact hu
  · exact hrecompute

theorem supplySummary_of_keeps {s t : State} {i : SupplyId} {new : SupplySettings}
    (hnew : t.settings.supplies.get i = new) (hgood : (t.supplies.get i).good = (s.supplies.get i).good) :
    t.supplySummary i = byte (if new.installed then 1 else 0) :: le16 new.capacity
      ++ [byte (if (s.supplies.get i).good then 1 else 0)] := by
  rw [State.supplySummary, hnew, hgood]
  rfl

/-- The state in which supply `i` has new settings. -/
def State.withSupply (i : SupplyId) (new : SupplySettings) (s : State) : State :=
  { s with settings := { s.settings with supplies := s.settings.supplies.set i new } }

theorem supplyStored_report (i : SupplyId) (new : SupplySettings) (s : State) :
    report ((if new = s.settings.supplies.get i then s.withSupply i new
        else supplyEvent (post (.supply i) (s.withSupply i new))).supplySummary i)
      (if new = s.settings.supplies.get i then s.withSupply i new
        else supplyEvent (post (.supply i) (s.withSupply i new)))
    = report (byte (if new.installed then 1 else 0) :: le16 new.capacity
        ++ [byte (if (s.supplies.get i).good then 1 else 0)])
      (if new = s.settings.supplies.get i then s.withSupply i new
        else supplyEvent (post (.supply i) (s.withSupply i new))) := by
  have hget : (s.settings.supplies.set i new).get i = new := by rw [get_set_eq, if_pos rfl]
  refine congrArg (report · _) ?_
  split
  · exact supplySummary_of_keeps hget rfl
  · obtain ⟨hset, hsup⟩ := supplyEvent_keeps (post (.supply i) (s.withSupply i new))
    exact supplySummary_of_keeps (by rw [hset]; exact hget) (by rw [hsup]; rfl)

theorem setSupplyAct_valid {a : Byte × Option Nat × Option Nat} {s : State} {i : SupplyId} {new : SupplySettings}
    (hi : a.1.toNat = i.val) (hvalid : knownCode yesNoOfCode a.2.1 = true)
    (hinstalled : writeCode yesNoOfCode a.2.1 (s.settings.supplies.get i).installed = new.installed)
    (hcapacity : writeNum 0 30000 a.2.2 (s.settings.supplies.get i).capacity = new.capacity) :
    setSupplyAct a s = report (byte (if new.installed then 1 else 0) :: le16 new.capacity
        ++ [byte (if (s.supplies.get i).good then 1 else 0)])
      (if new = s.settings.supplies.get i then s.withSupply i new
        else supplyEvent (post (.supply i) (s.withSupply i new))) := by
  simp only [setSupplyAct, fourOf_of_val hi, if_pos hvalid, hinstalled, hcapacity]
  exact supplyStored_report i new s

theorem shedTimer_follows (total : Bool) (delay : Nat) (now : Option Nat) : shedTimer total delay now
    = if total = false ∨ delay = 0 then none else some (now.getD (delay * 1000)) := by
  by_cases h : total = false ∨ delay = 0
  · rw [if_pos h, shedTimer_eq_none h now]
  · rw [if_neg h]
    rw [not_or, Bool.not_eq_false] at h
    rw [h.1, shedTimer_eq_some h.2 now]

/-- The state SET BUDGET leaves before the Ledger takes it up (R54, R63). -/
def State.budgeted (new : BudgetSettings) (s : State) : State :=
  let t := { s with settings := { s.settings with budget := new } }
  if new.shedDelay = s.settings.budget.shedDelay then t
  else { t with shed := if s.overBudget = false ∨ new.shedDelay = 0 then none
                        else some (s.shed.getD (new.shedDelay * 1000)) }

theorem setBudgetAct_valid {a : SetBudgetArgs} {s : State} {new : BudgetSettings}
    (hvalid : knownCode ReservePolicy.ofCode a.reserve = true) (hnew : a.apply s.settings.budget = new) :
    setBudgetAct a s = report new.block
      (if new.reserve = s.settings.budget.reserve ∧ new.derate = s.settings.budget.derate
          ∧ new.base = s.settings.budget.base then s.budgeted new else ledgerEvent (s.budgeted new)) := by
  have hbudgeted : (if new.shedDelay = s.settings.budget.shedDelay
      then { s with settings := { s.settings with budget := new } }
      else followShedDelay { s with settings := { s.settings with budget := new } }) = s.budgeted new := by
    rw [followShedDelay, shedTimer_follows]
    rfl
  rw [setBudgetAct, if_pos hvalid]
  dsimp only
  rw [hnew, hbudgeted]
  refine congrArg (report new.block) (if_congr ?_ rfl rfl)
  rw [Bool.and_eq_true, Bool.and_eq_true, decide_eq_true_eq, decide_eq_true_eq, decide_eq_true_eq, and_assoc]

/-- Settles O31: the values are judged first, and a change is taken up by the Ledger. -/
theorem setSupplyAndBudget : Obligations.SetSupplyAndBudget := by
  intro p tag x m a c0 c1 d e s h
  refine ⟨fun hm => ⟨fun hbad => ?_, fun i hi hgood => ?_⟩, fun hm => ⟨fun hbad => ?_, fun hgood => ?_⟩⟩
  · refine answers_commanding h rfl (if_pos (bne_iff_ne.mpr hm)) ?_
    by_cases hx : 4 ≤ x.toNat
    · simp only [setSupplyAct, fourOf_of_ge hx, refuse]
    · have hinvalid : ¬ knownCode yesNoOfCode (present m.toNat 0 a.toNat) = true := fun hk =>
        (knownCode_present yesNo_twoCodes ..).mp hk (hbad.resolve_left hx)
      simp only [setSupplyAct, fourOf_of_lt (Nat.not_le.mp hx), if_neg hinvalid, refuse]
  · refine answers_commanding h rfl (if_pos (bne_iff_ne.mpr hm)) (setSupplyAct_valid (new := {
      installed := _, capacity := _ }) hi ((knownCode_present yesNo_twoCodes ..).mpr hgood) ?_ ?_)
    · exact writeYesNo_present hgood _
    · exact writeNum_zero_present ..
  · have hinvalid : ¬ knownCode ReservePolicy.ofCode (present m.toNat 0 x.toNat) = true := fun hk =>
      (knownCode_present ReservePolicy.twoCodes ..).mp hk hbad
    refine answers_commanding h rfl (if_pos (bne_iff_ne.mpr hm)) ?_
    rw [setBudgetAct, if_neg hinvalid, refuse]
  · refine answers_commanding h rfl (if_pos (bne_iff_ne.mpr hm)) ((setBudgetAct_valid
      ((knownCode_present ReservePolicy.twoCodes ..).mpr hgood) ?_).trans (by rw [BudgetSettings.block_eq]; rfl))
    simp only [SetBudgetArgs.apply, writeCode_present ReservePolicy.twoCodes hgood, writeNum_present, Nat.zero_max, readLe16]
    rfl

/-! ### SET CURVE and SET SENSOR MAP (R120, R121) -/

theorem readPairs_flatMap (ps : List (Byte × Byte)) : readPairs (ps.flatMap fun q => [q.1, q.2]) = some ps := by
  induction ps with
  | nil => rfl
  | cons q ps ih =>
    simp only [List.flatMap_cons, List.cons_append, List.nil_append, readPairs, ih]
    rfl

theorem length_flatMap_pair (ps : List (Byte × Byte)) : (ps.flatMap fun q => [q.1, q.2]).length = 2 * ps.length := by
  induction ps with
  | nil => rfl
  | cons q ps ih =>
    simp only [List.flatMap_cons, List.length_append, List.length_cons, List.length_nil, ih]
    omega

theorem readSetCurve_pairs {ps : List (Byte × Byte)} (h : ps.length < 256) (x : Byte) :
    readSetCurve (x :: byte ps.length :: ps.flatMap fun q => [q.1, q.2])
      = some (x, ps.map fun q => (q.1.toInt, q.2.toNat)) := by
  have hlen : (ps.flatMap fun q => [q.1, q.2]).length = 2 * (byte ps.length).toNat := by
    rw [length_flatMap_pair, byte_toNat h]
  rw [readSetCurve, if_pos hlen, readPairs_flatMap]
  rfl

/-- The points of SET CURVE as clamped (R120). -/
def clampedPoints (ps : List (Byte × Byte)) : List (Int × Nat) :=
  ps.map fun q => (max (-40) (min 125 q.1.toInt), min q.2.toNat 100)

theorem clampCurve_points (ps : List (Byte × Byte)) :
    clampCurve (ps.map fun q => (q.1.toInt, q.2.toNat)) = clampedPoints ps := by
  rw [clampCurve, List.map_map]
  rfl

theorem curveGood_points (ps : List (Byte × Byte)) : curveGood (ps.map fun q => (q.1.toInt, q.2.toNat)) = true
    ↔ 2 ≤ ps.length ∧ ps.length ≤ 6 ∧ (clampedPoints ps).Pairwise fun q r => q.1 < r.1 := by
  rw [curveGood, clampCurve_points, Bool.and_eq_true, decide_eq_true_eq, ascending_iff, List.length_map, and_assoc]

/-- The entries of SET SENSOR MAP as they are read. -/
def mapArgs (mask : Nat) (es : Vector Byte 8) : List (Option Nat) :=
  List.ofFn fun i : Fin 8 => present mask i.val (es.get i).toNat

theorem vector_eight {α : Type} (es : Vector α 8) : es.toList
    = [es.get 0, es.get 1, es.get 2, es.get 3, es.get 4, es.get 5, es.get 6, es.get 7] := by
  obtain ⟨⟨l⟩, hl⟩ := es
  match l, hl with
  | [_, _, _, _, _, _, _, _], _ => rfl

theorem readSensorMap_eq {m0 m1 : Byte} (hm : (m0.toNat + 256 * m1.toNat) % 512 ≠ 0) (es : Vector Byte 8) (l0 l1 : Byte) :
    readSensorMap (m0 :: m1 :: (es.toList ++ [l0, l1]))
      = some (mapArgs (m0.toNat + 256 * m1.toNat) es, present (m0.toNat + 256 * m1.toNat) 8 (l0.toNat + 256 * l1.toNat)) := by
  have hargs : mapArgs (m0.toNat + 256 * m1.toNat) es = _ := List.ofFn_eq_map
  rw [vector_eight, hargs]
  exact if_pos (bne_iff_ne.mpr hm)

theorem mapArgs_getD (mask : Nat) (es : Vector Byte 8) (i : SensorId) :
    (mapArgs mask es).getD i.val none = present mask i.val (es.get i).toNat := by
  rw [mapArgs, List.getD_eq_getElem _ _ (by simp), List.getElem_ofFn]

theorem mapEntryOfCode_cases (x : Byte) :
    (¬ (4 ≤ x.toNat ∧ x ≠ 0xFF) → mapEntryOfCode x.toNat = some (fourOf x))
    ∧ (4 ≤ x.toNat ∧ x ≠ 0xFF → mapEntryOfCode x.toNat = none) := by
  revert x
  decide

theorem mapArgs_known (mask : Nat) (es : Vector Byte 8) : (mapArgs mask es).all (knownCode mapEntryOfCode) = true
    ↔ ¬ ∃ i : Fin 8, mask.testBit i.val = true ∧ 4 ≤ (es.get i).toNat ∧ es.get i ≠ 0xFF := by
  rw [mapArgs, List.all_eq_true, List.forall_mem_ofFn_iff, not_exists]
  refine forall_congr' fun i => ?_
  obtain ⟨hgood, hbad⟩ := mapEntryOfCode_cases (es.get i)
  by_cases hbit : mask.testBit i.val = true
  · by_cases he : 4 ≤ (es.get i).toNat ∧ es.get i ≠ 0xFF
    · simp only [present, hbit, if_true, knownCode, hbad he, Option.isSome_none, Bool.false_eq_true, he,
        ne_eq, not_false_eq_true, and_self, not_true_eq_false]
    · simp only [present, hbit, if_true, knownCode, hgood he, Option.isSome_some, true_and, he, not_false_eq_true]
  · simp [present, hbit, knownCode]

theorem writeCode_mapEntry {mask i : Nat} {x : Byte} (h : ¬ (mask.testBit i = true ∧ 4 ≤ x.toNat ∧ x ≠ 0xFF))
    (old : Option ZoneId) :
    writeCode mapEntryOfCode (present mask i x.toNat) old = if mask.testBit i = true then fourOf x else old := by
  by_cases hbit : mask.testBit i = true
  · have hx := (mapEntryOfCode_cases x).1 fun hx => h ⟨hbit, hx⟩
    simp [writeCode, present, hbit, hx]
  · simp [writeCode, present, hbit]

theorem sensorBlock_eq (c : Settings) : c.sensorBlock
    = c.sensorMap.toList.map (fun e => match e with | none => 0xFF | some z => byte z.val) ++ le16 c.staleness := by
  refine congrArg (· ++ _) (List.map_congr_left fun e _ => ?_)
  cases e <;> rfl

theorem dropUnmapped_eq (s : State) : dropUnmapped s = { s with
    sensors := Vector.ofFn fun i : SensorId =>
      if s.settings.sensorMap.get i = none then { reading := none, valid := false } else s.sensors.get i } := by
  simp only [dropUnmapped, Option.isNone_iff_eq_none]

theorem setSensorMapAct_valid {a : List (Option Nat) × Option Nat} {s : State} {map : Vector (Option ZoneId) 8} {limit : Nat}
    (hvalid : a.1.all (knownCode mapEntryOfCode) = true)
    (hmap : (Vector.ofFn fun i : SensorId =>
      writeCode mapEntryOfCode (a.1.getD i.val none) (s.settings.sensorMap.get i)) = map)
    (hlimit : writeNum 10 600 a.2 s.settings.staleness = limit) :
    setSensorMapAct a s = report
      (map.toList.map (fun e => match e with | none => 0xFF | some z => byte z.val) ++ le16 limit)
      { s with
        settings := { s.settings with sensorMap := map, staleness := limit }
        sensors := Vector.ofFn fun i : SensorId =>
          if map.get i = none then { reading := none, valid := false } else s.sensors.get i } := by
  subst hmap hlimit
  rw [setSensorMapAct, if_pos hvalid]
  dsimp only
  rw [sensorBlock_eq, dropUnmapped_eq]

/-- Settles O43: the points and the entries are judged first, and the present ones stored. -/
theorem setCurveAndSensorMap : Obligations.SetCurveAndSensorMap := by
  intro p tag x m0 m1 l0 l1 ps es s h
  refine ⟨fun hlen => ⟨fun hbad => ?_, fun z hz hgood => ?_⟩, fun hm => ⟨fun hbad => ?_, fun hgood => ?_⟩⟩
  · refine answers_commanding h rfl (readSetCurve_pairs hlen x) ?_
    by_cases hx : 4 ≤ x.toNat
    · simp only [setCurveAct, fourOf_of_ge hx, refuse]
    · have hcurve : ¬ curveGood (ps.map fun q => (q.1.toInt, q.2.toNat)) = true := fun hc =>
        hbad.resolve_left hx ((curveGood_points ps).mp hc)
      simp only [setCurveAct, fourOf_of_lt (Nat.not_le.mp hx), if_neg hcurve, refuse]
  · refine answers_commanding h rfl (readSetCurve_pairs hlen x) ?_
    simp only [setCurveAct, fourOf_of_val hz, if_pos ((curveGood_points ps).mpr hgood), clampCurve_points]
    rw [show (clampedPoints ps).length = ps.length from List.length_map _]
    rfl
  · refine answers_commanding h rfl (readSensorMap_eq hm es l0 l1) ?_
    rw [setSensorMapAct, if_neg fun hk => (mapArgs_known _ es).mp hk hbad, refuse]
  · refine answers_commanding h rfl (readSensorMap_eq hm es l0 l1)
      (setSensorMapAct_valid ((mapArgs_known _ es).mpr hgood) (congrArg Vector.ofFn (funext fun i => ?_)) ?_)
    · rw [mapArgs_getD, writeCode_mapEntry fun hb => hgood ⟨i, hb⟩]
      rfl
    · exact writeNum_present ..

/-! ### The lights' requests and timers (R86, R94, R97) -/

/-- Settles O36: each request by its action, each expiry by what its timer shows. -/
theorem lightRequestsAndTimers : Obligations.LightRequestsAndTimers := by
  refine ⟨fun p tag a d0 d1 s => ⟨fun h => ⟨fun ha => ?_, fun ha => ?_, fun ha => ?_⟩,
    fun hrun => ⟨fun hne => exec_event rfl hrun (if_neg hne), fun hdue => exec_event rfl hrun (if_pos hdue),
      fun hon => exec_event rfl hrun (if_pos hon), fun hidle => exec_event rfl hrun (if_neg (by simp [hidle]))⟩,
    fun h => ?_⟩, fun b s hrun => ⟨exec_event rfl hrun rfl, exec_event rfl hrun rfl⟩⟩
  · exact answers_anyPort h rfl rfl (if_pos ha)
  · have h0 : ¬ a = 0 := by simp [ha]
    exact answers_anyPort h rfl rfl ((if_neg h0).trans (if_pos ha))
  · have h0 : ¬ a = 0 := fun h => absurd ha (by simp [h])
    have h1 : ¬ a = 1 := fun h => absurd ha (by simp [h])
    exact answers_anyPort h rfl rfl ((if_neg h0).trans (if_neg h1))
  · refine answers_commanding h rfl rfl ?_
    by_cases hidle : s.lightTest = none
    · have hnone : (hear p s).lightTest.isNone = true := Option.isNone_iff_eq_none.mpr hidle
      rw [lightTestAct, hnone, postIf_true, if_pos hidle]
      rfl
    · have hsome : (hear p s).lightTest.isNone = false := Option.isNone_eq_false_iff.mpr (Option.isSome_iff_ne_none.mpr hidle)
      rw [lightTestAct, hsome, postIf_false, if_neg hidle]
      rfl

/-! ### Notes (R151, R152) -/

theorem byte_flag (b : Bool) : byte (boolNat b) = if b then 1 else 0 := by
  cases b <;> rfl

theorem readNoteBytes_eq {note : List Byte} (hlo : 1 ≤ note.length) (hhi : note.length ≤ 16) :
    readNoteBytes note = some note := if_pos ⟨hlo, hhi⟩

/-- Settles O48: by the port and its peer. -/
theorem notes : Obligations.Notes := by
  intro p tag note s h
  refine ⟨fun hlo hhi => ?_, ?_⟩
  · refine answers_anyPort h rfl (readNoteBytes_eq hlo hhi) ?_
    rw [sendNoteAct, byte_flag]
    cases p <;> rfl
  · refine answers_anyPort h rfl rfl ?_
    rw [readNoteAct, byte_flag]
    cases p <;> rfl

end Sys2Proof.Machine

/-!
PROOF. What the lights and the fan drives show (R84–R87, R95–R97, R100, R111), the light frame, and the temperatures
of a report (R102).
-/

namespace Sys2Proof.Machine

/-! ### Patterns (R85, R86) -/

theorem lit_slow {n : Nat} (h : n < 2000) (dark : Bool) :
    Pattern.slow.lit n dark = (decide (n < 500) || (decide (1000 ≤ n) && decide (n < 1500))) := by
  rw [Pattern.lit, Bool.eq_iff_iff]
  simp only [decide_eq_true_eq, Bool.or_eq_true, Bool.and_eq_true]
  omega

theorem lit_fast (n : Nat) (dark : Bool) : Pattern.fast.lit n dark = decide (n - 250 * (n / 250) < 125) := by
  rw [Pattern.lit, decide_eq_decide]
  omega

theorem elementLit_composed {s : State} (hrun : s.resetHeld = false) (htest : s.lightTest = none) (b : BayId)
    (e : Element) : s.elementLit b e = ((s.bay b).pattern e).lit s.frame (s.bay b).dark.isSome := by
  simp [State.elementLit, hrun, htest]

theorem Bay.amber_eq (y : Bay) (n : Nat) (dark : Bool) : y.amber.lit n dark
    = if y.state = .fault ∨ (y.indications.a.failed || y.indications.b.failed) = true then true
      else if y.attention then Pattern.fast.lit n dark
      else if (y.indications.a.predicted || y.indications.b.predicted) then Pattern.slow.lit n dark
      else if (y.indications.a.rebuild || y.indications.b.rebuild) then decide (n < 200) else false := by
  change y.amber.lit n dark = if y.state = .fault ∨ y.effective.failed = true then true
    else if y.attention then Pattern.fast.lit n dark
    else if y.effective.predicted then Pattern.slow.lit n dark
    else if y.effective.rebuild then Pattern.wink.lit n dark else Pattern.off.lit n dark
  by_cases hf : y.state = .fault
  · rw [Bay.amber, if_pos hf, if_pos (.inl hf)]
    rfl
  · by_cases hfailed : y.effective.failed = true
    · rw [Bay.amber, if_neg hf, if_pos hfailed, if_pos (Or.inr hfailed)]
      rfl
    · rw [Bay.amber, if_neg hf, if_neg hfailed, if_neg (not_or.mpr ⟨hf, hfailed⟩), apply_ite (Pattern.lit n dark),
        apply_ite (Pattern.lit n dark), apply_ite (Pattern.lit n dark)]

theorem Bay.blue_eq (y : Bay) (n : Nat) (dark : Bool) : y.blue.lit n dark
    = if y.state = .removable then true
      else if (y.indications.a.locate || y.indications.b.locate) then Pattern.slow.lit n dark
      else if (y.indications.a.hotspare || y.indications.b.hotspare) then decide (n < 200) else false := by
  rw [Bay.blue, apply_ite (Pattern.lit n dark), apply_ite (Pattern.lit n dark), apply_ite (Pattern.lit n dark)]
  rfl

theorem faultComposed_iff (s : State) : s.faultComposed = true ↔
    (∃ b : BayId, (s.bay b).state = .fault) ∨ (∃ f : FanId, (s.fans.get f).state = .failed)
    ∨ (∃ z : ZoneId, (s.zone z).overheat = true ∨ (s.zone z).blind = true)
    ∨ (∃ i : SupplyId, (s.settings.supplies.get i).installed = true ∧ (s.supplies.get i).good = false)
    ∨ s.overBudget = true := by
  simp only [State.faultComposed, State.faultConditions, List.any_cons, List.any_nil, id_eq, Bool.or_eq_true,
    Bool.or_false, State.faultBay, State.faultFan, State.faultZone, State.faultSupply, List.any_eq_true, mem_allBays,
    List.mem_finRange, true_and, decide_eq_true_eq, Bool.and_eq_true, Bool.not_eq_true']

/-! ### The frame (5.1) -/

theorem elapse_frame (s : State) : (elapse s).frame = if s.resetHeld then s.frame else (s.frame + 1) % 2000 := by
  unfold elapse
  split <;> rfl

/-- No command but RESET_RELEASE moves the light frame. -/
theorem exec_frame {c : Instr} {s t : State} (hc : ∀ presence powerGood, c ≠ .resetRelease presence powerGood)
    (h : exec c s = .next t) : t.frame = s.frame := by
  cases hd : drivesReset c with
  | false =>
    obtain ⟨u, hu, hchain⟩ := exec_chain (ordered := False) c (s := s) hd nofun
    rw [← Host.Outcome.next.inj (hu.symm.trans h)]
    exact hchain.rest.2.2
  | true =>
    cases c with
    | resetAssert => rw [← Host.Outcome.next.inj h]
    | resetRelease presence powerGood => exact absurd rfl (hc presence powerGood)
    | _ => cases hd

theorem resetRelease_frame (presence : BitVec 60) (powerGood : BitVec 4) (s : State) :
    (resetRelease presence powerGood s).frame = 0 := by
  rw [(chain_resetRelease (wide := False) (ordered := False) presence powerGood s).rest.2.2, released_only]
  rfl

/-- Settles O37: the patterns by the frame, the enclosure lights by their conditions, the frame by the command taken. -/
theorem lightOutputs : Obligations.LightOutputs := by
  refine ⟨fun b s hframe => ⟨fun hheld e => ?_, fun hrun htest e => ?_, fun hrun htest => ⟨?_, ?_, ?_⟩⟩,
    fun s hframe => ⟨fun hheld => ⟨?_, ?_, fun f => ?_⟩, fun hrun htest => ⟨?_, ?_⟩,
      fun hrun htest => ⟨?_, fun ha hb => ?_, fun hset => ?_⟩, fun hrun f => ⟨fun habsent => ?_, fun hpresent => ?_⟩⟩,
    fun s t h => ?_⟩
  · simp [State.elementLit, hheld]
  · simp [State.elementLit, hrun, htest]
  · rw [elementLit_composed hrun htest, Bay.pattern, ← lit_slow hframe (s.bay b).dark.isSome,
      ← lit_fast s.frame (s.bay b).dark.isSome, Bay.green]
    cases (s.bay b).state <;> simp [Pattern.lit]
  · rw [elementLit_composed hrun htest, Bay.pattern, Bay.amber_eq, lit_slow hframe, lit_fast]
  · rw [elementLit_composed hrun htest, Bay.pattern, Bay.blue_eq, lit_slow hframe]
  · simp [State.faultLit, hheld]
  · simp [State.locateLit, hheld]
  · exact if_pos hheld
  · simp [State.faultLit, hrun, htest]
  · simp [State.locateLit, hrun, htest]
  · have hcomposed : s.faultLit = s.faultComposed := by simp [State.faultLit, hrun, htest]
    rw [hcomposed, faultComposed_iff]
  · simp [State.locateLit, hrun, htest, State.locatePattern, ha, hb, LocateTimer.isSet, Pattern.lit]
  · have hpattern : s.locatePattern = .slow := by
      rw [State.locatePattern, isSet_eq, isSet_eq, ← Bool.decide_or]
      refine if_pos (decide_eq_true ?_)
      tauto
    rw [State.locateLit, hpattern, hrun, htest, lit_slow hframe]
    rfl
  · rw [State.fanDrive, hrun, if_pos habsent]
    rfl
  · rw [State.fanDrive, hrun, if_neg hpresent]
    rfl
  · have hnext : t.frame = match s.pending with
        | [] => if s.resetHeld then s.frame else (s.frame + 1) % 2000
        | .resetRelease _ _ :: _ => 0
        | _ :: _ => s.frame := by
      cases hp : s.pending with
      | nil =>
        rw [step_of_idle hp] at h
        rw [← Host.Outcome.next.inj h]
        exact elapse_frame s
      | cons c rest =>
        rw [step_of_pending hp] at h
        cases c
        case resetRelease presence powerGood =>
          rw [← Host.Outcome.next.inj h]
          exact resetRelease_frame ..
        all_goals exact exec_frame (s := { s with pending := rest }) (fun _ _ hc => by cases hc) h
    refine ⟨hnext, fun hframe => ?_⟩
    rw [hnext]
    split
    · split
      · exact hframe
      · exact Nat.mod_lt _ (by decide)
    · decide
    · exact hframe

/-! ### The temperatures of a report (R102) -/

theorem readReport_pairs {pairs : List (Byte × Byte)} (hlo : 1 ≤ pairs.length) (hhi : pairs.length ≤ 30) :
    readReport (byte pairs.length :: pairs.flatMap fun q => [q.1, q.2]) = some pairs := by
  have hn : (byte pairs.length).toNat = pairs.length := byte_toNat (by omega)
  rw [readReport, if_pos ⟨by omega, by omega, by rw [length_flatMap_pair, hn]⟩, readPairs_flatMap]

/-- A bay as a pair of a report leaves it (R102). -/
def Bay.reported (y : Bay) (q : Byte × Byte) : Bay :=
  if y.state ∈ [BayState.starting, .ready] then
    { y with temp := some { value := max (-40) (min 125 q.2.toInt), ageMs := 0 } }
  else y

theorem reported_state (y : Bay) (q : Byte × Byte) : (y.reported q).state = y.state := by
  unfold Bay.reported
  split <;> rfl

theorem reported_reported (y : Bay) (q r : Byte × Byte) : (y.reported r).reported q = y.reported q := by
  unfold Bay.reported
  by_cases h : y.state ∈ [BayState.starting, .ready] <;> simp only [h, if_true, if_false]

/-- The bay of a number is one that takes a temperature. -/
def State.takesTemp (s : State) (x : Byte) : Bool :=
  (bayOf x).any fun b => decide ((s.bay b).state ∈ [BayState.starting, .ready])

theorem takePair_eq (q : Byte × Byte) (s : State) (n : ReportCounts) :
    (takePair q (s, n)).1 = { s with bays := (takePair q (s, n)).1.bays }
    ∧ (∀ b, (takePair q (s, n)).1.bay b = if q.1.toNat = b.val then (s.bay b).reported q else s.bay b)
    ∧ (takePair q (s, n)).2 = { 
        taken := n.taken + if s.takesTemp q.1 then 1 else 0
        notPowered := n.notPowered + if (decide (q.1.toNat < 60) && !s.takesTemp q.1) then 1 else 0
        outOfRange := n.outOfRange + if decide (60 ≤ q.1.toNat) then 1 else 0 } := by
  by_cases hq : q.1.toNat < 60
  · have hbay : bayOf q.1 = some ⟨q.1.toNat, hq⟩ := bayOf_of_val rfl
    have hge : ¬ 60 ≤ q.1.toNat := Nat.not_le.mpr hq
    have htakes : s.takesTemp q.1 = decide ((s.bay ⟨q.1.toNat, hq⟩).state ∈ [BayState.starting, .ready]) := by
      rw [State.takesTemp, hbay]
      rfl
    by_cases hp : (s.bay ⟨q.1.toNat, hq⟩).state ∈ [BayState.starting, .ready]
    · have htake : takePair q (s, n) = (setBay ⟨q.1.toNat, hq⟩ ((s.bay ⟨q.1.toNat, hq⟩).reported q) s,
          { n with taken := n.taken + 1 }) := by
        simp only [takePair, hbay, (powered_iff _).mpr hp, if_true, Bay.reported, if_pos hp]
        rfl
      rw [htake]
      refine ⟨rfl, fun b => ?_, ?_⟩
      · rw [setBay_bay]
        by_cases hb : b = ⟨q.1.toNat, hq⟩
        · rw [if_pos hb, hb, if_pos rfl]
        · rw [if_neg hb, if_neg fun h => hb (Fin.ext h.symm)]
      · simp [htakes, hp, hq, hge]
    · have htake : takePair q (s, n) = (s, { n with notPowered := n.notPowered + 1 }) := by
        simp only [takePair, hbay, if_neg fun h => hp ((powered_iff _).mp h)]
      rw [htake]
      refine ⟨rfl, fun b => ?_, ?_⟩
      · by_cases hb : q.1.toNat = b.val
        · obtain rfl : (⟨q.1.toNat, hq⟩ : BayId) = b := Fin.ext hb
          rw [if_pos rfl, Bay.reported, if_neg hp]
        · rw [if_neg hb]
      · simp [htakes, hp, hq, hge]
  · have hge : 60 ≤ q.1.toNat := Nat.not_lt.mp hq
    have hbay : bayOf q.1 = none := bayOf_of_ge hge
    have htake : takePair q (s, n) = (s, { n with outOfRange := n.outOfRange + 1 }) := by
      simp only [takePair, hbay]
    rw [htake]
    refine ⟨rfl, fun b => ?_, ?_⟩
    · rw [if_neg fun h : q.1.toNat = b.val => hq (h ▸ b.isLt)]
    · simp [State.takesTemp, hbay, hq, hge]

/-- The pairs of a report taken one after another: each bay holds its last, and the counts sum up (R102). -/
theorem takePairs_eq (s : State) (pairs : List (Byte × Byte)) :
    let r := pairs.foldl (fun acc q => takePair q acc) (s, { taken := 0, notPowered := 0, outOfRange := 0 })
    r.1 = { s with bays := r.1.bays }
    ∧ (∀ b, r.1.bay b = (pairs.reverse.find? fun q => q.1.toNat = b.val).elim (s.bay b) (s.bay b).reported)
    ∧ r.2 = {
        taken := pairs.countP fun q => s.takesTemp q.1
        notPowered := pairs.countP fun q => decide (q.1.toNat < 60) && !s.takesTemp q.1
        outOfRange := pairs.countP fun q => decide (60 ≤ q.1.toNat) } := by
  induction pairs using List.reverseRecOn with
  | nil => exact ⟨rfl, fun b => rfl, rfl⟩
  | append_singleton ps q ih =>
    obtain ⟨honly, hbays, hcounts⟩ := ih
    dsimp only
    rw [List.foldl_append, List.foldl_cons, List.foldl_nil]
    generalize ps.foldl (fun acc q => takePair q acc) (s, { taken := 0, notPowered := 0, outOfRange := 0 }) = r at *
    obtain ⟨u, n⟩ := r
    obtain ⟨honly', hbays', hcounts'⟩ := takePair_eq q u n
    dsimp only at honly hbays hcounts
    have hstate : ∀ b, (u.bay b).state = (s.bay b).state := fun b => by
      rw [hbays b]
      cases ps.reverse.find? fun q => q.1.toNat = b.val with
      | none => rfl
      | some q => exact reported_state ..
    have htakes : u.takesTemp q.1 = s.takesTemp q.1 := by simp only [State.takesTemp, hstate]
    refine ⟨?_, fun b => ?_, ?_⟩
    · rw [honly', honly]
    · rw [hbays' b, List.reverse_append, List.reverse_singleton, List.singleton_append, List.find?_cons]
      by_cases hb : q.1.toNat = b.val
      · rw [if_pos hb, decide_eq_true hb, hbays b]
        cases ps.reverse.find? fun q => q.1.toNat = b.val with
        | none => rfl
        | some r => exact reported_reported ..
      · rw [if_neg hb, decide_eq_false hb, hbays b]
    · rw [hcounts', htakes, hcounts]
      simp only [List.countP_append, List.countP_singleton]

/-- Settles O38: the pairs by their fold. -/
theorem reportedTemperatures : Obligations.ReportedTemperatures := by
  intro p tag pairs s h hlo hhi
  obtain ⟨honly, hbays, hcounts⟩ := takePairs_eq (hear p s) pairs
  generalize hr : pairs.foldl (fun acc q => takePair q acc) (hear p s, { taken := 0, notPowered := 0, outOfRange := 0 })
    = r at honly hbays hcounts
  refine ⟨r.1.bays, answers_anyPort h rfl (readReport_pairs hlo hhi) ?_, fun b => ?_⟩
  · rw [reportTempsAct, hr, hcounts, honly]
    rfl
  · have hbay := hbays b
    cases hf : pairs.reverse.find? fun q => q.1.toNat = b.val with
    | none =>
      rw [hf] at hbay
      exact hbay
    | some q =>
      rw [hf] at hbay
      exact hbay

end Sys2Proof.Machine

/-!
PROOF. The control period of a zone, stage by stage (R105–R112), its fans and what it hands on (R101, R113–R117), and
SET ZONE with the fan count (R113, R119).
-/

namespace Sys2Proof.Machine

/-! ### The inputs of a zone (R101, R105) -/

/-- A sensor input that counts (R101). -/
def validInput (x : Option Int) : Option Int := x.filter fun v => decide (-40 ≤ v ∧ v ≤ 125)

theorem readSensor_input (x : Option Int) :
    (if (readSensor x).valid = true then (readSensor x).reading else none) = validInput x := by
  cases x with
  | none => rfl
  | some v =>
    unfold readSensor validInput
    by_cases h : -40 ≤ v ∧ v ≤ 125 <;> simp [Option.filter, h]

theorem readSensors_sensor (z : ZoneId) (inputs : Vector (Option Int) 8) (s : State) (i : SensorId) :
    (readSensors z inputs s).sensors.get i
      = if s.settings.sensorMap.get i = some z then readSensor (inputs.get i) else s.sensors.get i := get_ofFn _ _

theorem tempOf_eq (s : State) (z : ZoneId) (b : BayId) : s.tempOf z true b
    = if (s.bayCfg b).zone = z ∧ (s.bay b).state ∈ [BayState.starting, .ready] then
        ((s.bay b).temp.filter fun d => decide (min (d.ageMs / 1000) 65535 ≤ s.settings.staleness)).map (·.value)
      else none := by
  refine if_congr ?_ ?_ rfl
  · rw [Bool.and_eq_true, decide_eq_true_eq, powered_iff]
  · cases (s.bay b).temp with
    | none => rfl
    | some d =>
      change (if (decide (d.age ≤ s.settings.staleness) == true) = true then some d.value else none)
        = ((if decide (d.age ≤ s.settings.staleness) = true then some d else none).map (·.value))
      by_cases hage : d.age ≤ s.settings.staleness <;> simp [hage]

/-- The state a control period judges: the fans supervised and the sensors read. -/
def State.sampled (z : ZoneId) (inputs : Vector (Option Int) 8) (speeds : Vector (BitVec 16) 4) (s : State) : State :=
  readSensors z inputs (superviseFans z speeds s)

/-- Supervision and reading change fans and sensors alone. -/
theorem sampled_only (z : ZoneId) (inputs : Vector (Option Int) 8) (speeds : Vector (BitVec 16) 4) (s : State) :
    s.sampled z inputs speeds = { s with
      fans := (s.sampled z inputs speeds).fans, sensors := (s.sampled z inputs speeds).sensors } := by
  unfold State.sampled readSensors superviseFans updFans
  rfl

theorem sampled_inputs (z : ZoneId) (inputs : Vector (Option Int) 8) (speeds : Vector (BitVec 16) 4) (s : State) :
    (s.sampled z inputs speeds).zoneInputs z
      = ((List.finRange 8).filterMap fun i =>
          if s.settings.sensorMap.get i = some z then validInput (inputs.get i) else none)
        ++ (List.finRange 60).filterMap fun b =>
          if (s.bayCfg b).zone = z ∧ (s.bay b).state ∈ [BayState.starting, .ready] then
            ((s.bay b).temp.filter fun d => decide (min (d.ageMs / 1000) 65535 ≤ s.settings.staleness)).map (·.value)
          else none := by
  have honly := sampled_only z inputs speeds s
  have hmap : (superviseFans z speeds s).settings.sensorMap = s.settings.sensorMap := rfl
  have hsensor : ∀ i, (s.sampled z inputs speeds).sensors.get i
      = if s.settings.sensorMap.get i = some z then readSensor (inputs.get i) else s.sensors.get i := fun i =>
    readSensors_sensor z inputs (superviseFans z speeds s) i
  generalize s.sampled z inputs speeds = t at honly hsensor
  have hset : t.settings = s.settings := by rw [honly]
  have htemp : t.tempOf z true = s.tempOf z true := by
    rw [honly]
    rfl
  rw [State.zoneInputs, htemp, funext (tempOf_eq s z)]
  refine congrArg (· ++ _) (List.filterMap_congr fun i _ => ?_)
  rw [hset, hsensor i]
  by_cases hi : s.settings.sensorMap.get i = some z
  · simp only [hi, decide_true, Bool.true_and, if_true]
    exact readSensor_input _
  · simp [hi]

theorem hottest_some {l : List Int} {v : Int} (hv : v ∈ l) (hmax : ∀ w ∈ l, w ≤ v) : hottest l = some v := by
  cases h : hottest l with
  | none => rw [hottest_none h] at hv; exact (List.not_mem_nil hv).elim
  | some u => exact congrArg some (le_antisymm (hmax u (hottest_mem h)) (hottest_le h v hv))

/-! ### The record a period leaves (R105–R112) -/

/-- The record of a zone after a period, from its inputs, its fans and its starting bays. -/
def Zone.period (c : ZoneSettings) (inputs : List Int) (failed : Bool) (boost : Nat) (x : Zone) : Zone :=
  { (({ x with degraded := failed } : Zone).withTemp inputs).judgedIf c with boost := boost }.driven c

theorem periodZone_eq (s : State) (z : ZoneId) : s.periodZone z
    = (s.zone z).period (s.zoneCfg z) (s.zoneInputs z) (s.hasFailedFan z) (s.zoneBoost z) := rfl

section Period

variable (c : ZoneSettings) (inputs : List Int) (failed : Bool) (boost : Nat) (x : Zone)

theorem period_applied : (x.period c inputs failed boost).applied
    = slew c.slewUp c.slewDown (x.period c inputs failed boost).demand x.applied := by
  unfold Zone.period Zone.driven Zone.withTemp Zone.judgedIf
  dsimp only
  cases hottest inputs <;> rfl

theorem period_demand : (x.period c inputs failed boost).demand = (x.period c inputs failed boost).demanded c := by
  unfold Zone.period Zone.driven
  rfl

theorem period_duties : (x.period c inputs failed boost).boost = boost
    ∧ (x.period c inputs failed boost).reservation
      = max (x.period c inputs failed boost).ceiling (x.period c inputs failed boost).applied
    ∧ (x.period c inputs failed boost).periodMs = 1000 := by
  unfold Zone.period Zone.driven
  exact ⟨rfl, rfl, rfl⟩

theorem period_degraded : (x.period c inputs failed boost).degraded = failed := by
  unfold Zone.period Zone.driven Zone.withTemp Zone.judgedIf
  dsimp only
  cases hottest inputs <;> rfl

theorem period_blind (h : hottest inputs = none) : (x.period c inputs failed boost).temp = none
    ∧ (x.period c inputs failed boost).blind = true ∧ (x.period c inputs failed boost).hold = x.hold
    ∧ (x.period c inputs failed boost).overheat = x.overheat ∧ (x.period c inputs failed boost).ceiling = x.ceiling
    ∧ (x.period c inputs failed boost).curveInput = x.curveInput := by
  unfold Zone.period Zone.driven Zone.withTemp Zone.judgedIf
  rw [h]
  exact ⟨rfl, rfl, rfl, rfl, rfl, rfl⟩

theorem period_judged {v : Int} (h : hottest inputs = some v) : (x.period c inputs failed boost).temp = some v
    ∧ (x.period c inputs failed boost).blind = false
    ∧ (x.period c inputs failed boost).hold = flagAt c.hold c.hysteresis v x.hold
    ∧ (x.period c inputs failed boost).overheat = flagAt c.critical c.hysteresis v x.overheat
    ∧ (x.period c inputs failed boost).ceiling
      = (if (x.period c inputs failed boost).overheat then 100 else c.ceiling)
    ∧ (x.period c inputs failed boost).curveInput = some (stepInput c.hysteresis v x.curveInput) := by
  unfold Zone.period Zone.driven Zone.withTemp Zone.judgedIf
  rw [h]
  exact ⟨rfl, rfl, rfl, rfl, rfl, rfl⟩

end Period

theorem flagAt_iff (threshold : Int) (n : Nat) (v : Int) (now : Bool) : flagAt threshold n v now = true
    ↔ threshold ≤ v ∨ (now = true ∧ threshold - max (n : Int) 1 < v) := by
  have hmargin : ((max n 1 : Nat) : Int) = max (n : Int) 1 := by
    rw [Nat.cast_max]
    rfl
  unfold flagAt
  rw [hmargin]
  split
  · next h => exact iff_of_true rfl (.inl h)
  · next h =>
    split
    · next hle => exact iff_of_false nofun fun hc => hc.elim h fun hc => absurd hle (not_le.mpr hc.2)
    · next hlt => exact ⟨fun hn => .inr ⟨hn, not_le.mp hlt⟩, fun hc => (hc.resolve_left h).1⟩

theorem slew_up {up down demand applied : Nat} (h : applied ≤ demand) :
    slew up down demand applied = min demand (applied + up) := by
  unfold slew
  split <;> omega

theorem slew_down {up down demand applied : Nat} (h : demand ≤ applied) :
    slew up down demand applied = max demand (applied - down) := by
  unfold slew
  split <;> omega

theorem sum_map_ite {α : Type} (p : α → Bool) (f : α → Nat) (l : List α) :
    (l.map fun a => if p a = true then f a else 0).sum = ((l.filter p).map f).sum := by
  induction l with
  | nil => rfl
  | cons a l ih =>
    rw [List.map_cons, List.sum_cons, ih, List.filter_cons]
    split
    · rw [List.map_cons, List.sum_cons]
    · rw [Nat.zero_add]

theorem zoneBoost_eq (s : State) (z : ZoneId) : s.zoneBoost z
    = min 40 (((List.finRange 60).filter fun b =>
        (s.bay b).state = .starting ∧ (s.bayCfg b).zone = z).map fun b => (s.profile b).boost).sum := by
  rw [State.zoneBoost, sum_map_ite]
  simp only [allBays, Bool.decide_and]

theorem zoneBoost_congr {s t : State} {z : ZoneId} (hset : t.settings = s.settings) (hbays : t.bays = s.bays) :
    t.zoneBoost z = s.zoneBoost z := by
  have hbay : t.bay = s.bay := funext fun b => congrArg (·.get b) hbays
  have hcfg : t.bayCfg = s.bayCfg := funext fun b => congrArg (fun x : Settings => x.bays.get b) hset
  have hprofile : t.profile = s.profile := funext fun b => profile_congr hset (by rw [hbay])
  rw [State.zoneBoost, State.zoneBoost, hbay, hcfg, hprofile]

theorem hasFailedFan_iff (s : State) (z : ZoneId) :
    s.hasFailedFan z = true ↔ ∃ i : Fin 4, (s.fans.get (fanOf z i)).state = .failed := by
  simp only [State.hasFailedFan, List.any_eq_true, List.mem_finRange, true_and, decide_eq_true_eq]

/-! ### What a period hands on (R112, R117) -/

/-- The Ledger and admission change neither zones, fans nor settings. -/
theorem opportunity_cooling (s : State) : (opportunity s).zones = s.zones ∧ (opportunity s).fans = s.fans
    ∧ (opportunity s).settings = s.settings := by
  refine opportunity_keeps (P := fun u => u.zones = s.zones ∧ u.fans = s.fans ∧ u.settings = s.settings)
    (fun u v hu hv => ?_) ⟨rfl, rfl, rfl⟩
  obtain ⟨e, q, -, -, -, -, -, hv⟩ := admitOne_cases hv
  obtain ⟨gap, totals, total, lost, shed, ps, pl, h⟩ := startBay_frame e.bay q u
  rw [hv, h]
  exact hu

theorem recompute_cooling (s : State) : (recompute s).zones = s.zones ∧ (recompute s).fans = s.fans
    ∧ (recompute s).settings = s.settings := by
  obtain ⟨ps, h⟩ := recompute_frame s
  rw [h]
  exact ⟨rfl, rfl, rfl⟩

theorem handOn_cooling (z : ZoneId) (was now : State) : (handOn z was now).zones = now.zones
    ∧ (handOn z was now).fans = now.fans ∧ (handOn z was now).settings = now.settings := by
  have hr := recompute_cooling now
  unfold handOn
  dsimp only
  generalize recompute now = r at hr
  have hv : (if (was.zone z).reservation = (now.zone z).reservation then now else r).zones = now.zones
      ∧ (if (was.zone z).reservation = (now.zone z).reservation then now else r).fans = now.fans
      ∧ (if (was.zone z).reservation = (now.zone z).reservation then now else r).settings = now.settings := by
    split
    · exact ⟨rfl, rfl, rfl⟩
    · exact hr
  generalize (if (was.zone z).reservation = (now.zone z).reservation then now else r) = v at hv
  obtain ⟨hz, hf, hs⟩ := hv
  obtain ⟨hoz, hof, hos⟩ := opportunity_cooling v
  split
  · exact ⟨hoz.trans hz, hof.trans hf, hos.trans hs⟩
  · exact ⟨hz, hf, hs⟩

/-- The state of a period before it hands on. -/
def State.judgedZone (z : ZoneId) (inputs : Vector (Option Int) 8) (speeds : Vector (BitVec 16) 4) (s : State) : State :=
  postIf (zoneChanged z s (periodRead z inputs speeds s)) (.zone z) (periodRead z inputs speeds s)

section Judged

variable (z : ZoneId) (inputs : Vector (Option Int) 8) (speeds : Vector (BitVec 16) 4) (s : State)

theorem periodRead_sampled : periodRead z inputs speeds s
    = setZone z ((s.sampled z inputs speeds).periodZone z) (s.sampled z inputs speeds) := rfl

theorem judgedZone_only : ∃ zs fs ss ps, s.judgedZone z inputs speeds
    = { s with zones := zs, fans := fs, sensors := ss, ports := ps } := by
  obtain ⟨x, h⟩ := periodRead_only z inputs speeds s
  unfold State.judgedZone
  rw [h, postIf_only]
  exact ⟨_, _, _, _, rfl⟩

theorem judgedZone_fans : (s.judgedZone z inputs speeds).fans = (superviseFans z speeds s).fans := by
  obtain ⟨x, h⟩ := periodRead_only z inputs speeds s
  unfold State.judgedZone
  rw [postIf_fans, h]

theorem judgedZone_zone (w : ZoneId) : (s.judgedZone z inputs speeds).zone w
    = if w = z then (s.zone z).period (s.zoneCfg z) ((s.sampled z inputs speeds).zoneInputs z)
        ((s.judgedZone z inputs speeds).hasFailedFan z) (s.zoneBoost z) else s.zone w := by
  have hfans : (s.judgedZone z inputs speeds).hasFailedFan z = (s.sampled z inputs speeds).hasFailedFan z :=
    hasFailedFan_congr fun i => by
      rw [State.fan, judgedZone_fans, State.sampled, readSensors_fan]
      rfl
  have honly := sampled_only z inputs speeds s
  rw [hfans]
  unfold State.judgedZone
  rw [postIf_zone, periodRead_sampled, setZone_zone]
  generalize s.sampled z inputs speeds = t at honly
  have hset : t.settings = s.settings := by rw [honly]
  have hbays : t.bays = s.bays := by rw [honly]
  have hzone : ∀ w, t.zone w = s.zone w := fun w => by rw [honly]; rfl
  have hcfg : t.zoneCfg z = s.zoneCfg z := by rw [State.zoneCfg, hset]; rfl
  rw [periodZone_eq, hzone, hzone, hcfg, zoneBoost_congr hset hbays]

theorem controlPeriod_handsOn : controlPeriod z inputs speeds s = handOn z s (s.judgedZone z inputs speeds) :=
  controlPeriod_eq z inputs speeds s

end Judged

/-- Settles O39: the inputs as they are read, and then the record stage by stage. -/
theorem controlPeriodStages : Obligations.ControlPeriodStages := by
  intro z inputs speeds s hrun
  obtain ⟨hzones, hfans, hset⟩ := handOn_cooling z s (s.judgedZone z inputs speeds)
  have hzone := judgedZone_zone z inputs speeds s
  obtain ⟨zs, fs, ss, ps, honly⟩ := judgedZone_only z inputs speeds s
  have hinputs := sampled_inputs z inputs speeds s
  refine ⟨controlPeriod z inputs speeds s, exec_event rfl hrun rfl, ?_⟩
  rw [controlPeriod_handsOn]
  generalize s.judgedZone z inputs speeds = u at hzones hfans hset hzone honly
  generalize handOn z s u = t at hzones hfans hset
  have hfailed : u.hasFailedFan z = true ↔ ∃ i : Fin 4, (t.fans.get (fanOf z i)).state = .failed := by
    rw [hfans, hasFailedFan_iff]
  have hty : t.zone z = (s.zone z).period (s.zoneCfg z) ((s.sampled z inputs speeds).zoneInputs z) (u.hasFailedFan z)
      (s.zoneBoost z) := by
    rw [State.zone, hzones]
    exact (hzone z).trans (if_pos rfl)
  obtain ⟨hboost, hreservation, hperiod⟩ := period_duties (s.zoneCfg z) ((s.sampled z inputs speeds).zoneInputs z)
    (u.hasFailedFan z) (s.zoneBoost z) (s.zone z)
  have hblind := fun h => period_blind (s.zoneCfg z) ((s.sampled z inputs speeds).zoneInputs z) (u.hasFailedFan z)
    (s.zoneBoost z) (s.zone z) h
  have hjudged := fun {v} h => period_judged (v := v) (s.zoneCfg z) ((s.sampled z inputs speeds).zoneInputs z)
    (u.hasFailedFan z) (s.zoneBoost z) (s.zone z) h
  have happlied := period_applied (s.zoneCfg z) ((s.sampled z inputs speeds).zoneInputs z) (u.hasFailedFan z)
    (s.zoneBoost z) (s.zone z)
  have hdegraded := period_degraded (s.zoneCfg z) ((s.sampled z inputs speeds).zoneInputs z) (u.hasFailedFan z)
    (s.zoneBoost z) (s.zone z)
  have hdemand := period_demand (s.zoneCfg z) ((s.sampled z inputs speeds).zoneInputs z) (u.hasFailedFan z)
    (s.zoneBoost z) (s.zone z)
  rw [← hty] at hboost hreservation hperiod hblind hjudged happlied hdegraded hdemand
  rw [hinputs] at hblind hjudged
  refine ⟨fun hnone => hblind (by exact hnone ▸ rfl), fun v hv hmax => ?_, ?_, hboost.trans (zoneBoost_eq s z), hdemand,
    fun h => happlied.trans (slew_up h), fun h => happlied.trans (slew_down h), hreservation, hperiod, fun w hw => ?_,
    ?_⟩
  · obtain ⟨htemp, hsees, hhold, hover, hceiling, hcurve⟩ := hjudged (hottest_some hv hmax)
    refine ⟨htemp, hsees, ?_, ?_, hceiling, fun hnone => ?_, fun h hh => ?_⟩
    · rw [hhold, flagAt_iff]
    · rw [hover, flagAt_iff]
    · rw [hcurve, hnone]
      rfl
    · rw [Option.mem_def] at hh
      rw [hcurve, hh]
      rfl
  · rw [hdegraded]
    exact hfailed
  · rw [State.zone, hzones]
    exact (hzone w).trans (if_neg hw)
  · rw [hset, honly]

end Sys2Proof.Machine

/-!
PROOF. The fans and sensors of a control period, and what it hands on (R101, R112–R117); SET ZONE and the fan count
(R113, R119).
-/

namespace Sys2Proof.Machine

/-! ### The fans of a period (R114, R115) -/

section Supervise

variable (stall applied : Nat) (v : BitVec 16) (f : Fan)

theorem supervise_absent (h : f.state = .absent) : f.supervise stall applied v = f := by
  rw [Fan.supervise, h]

theorem supervise_stalls (h : f.state = .running) (hslow : v.toNat < stall) (happlied : 20 ≤ applied) :
    f.supervise stall applied v = if f.stallRun + 1 < 3 then { f with speed := v, stallRun := f.stallRun + 1 }
      else { state := .failed, speed := v, stallRun := 0, recoveryRun := 0 } := by
  have hcond : (decide (v.toNat < stall) && decide (20 ≤ applied)) = true := by simp [hslow, happlied]
  rw [Fan.supervise, h]
  refine (if_pos hcond).trans ?_
  by_cases hrun : f.stallRun + 1 < 3
  · rw [if_pos hrun]
    exact if_neg (Nat.not_le.mpr hrun)
  · rw [if_neg hrun]
    exact if_pos (Nat.not_lt.mp hrun)

theorem supervise_turns (h : f.state = .running) (hfast : ¬ (v.toNat < stall ∧ 20 ≤ applied)) :
    f.supervise stall applied v = { f with speed := v, stallRun := 0 } := by
  have hcond : ¬ (decide (v.toNat < stall) && decide (20 ≤ applied)) = true := by simpa using hfast
  rw [Fan.supervise, h]
  exact if_neg hcond

theorem supervise_recovers (h : f.state = .failed) (hfast : ¬ v.toNat < stall) :
    f.supervise stall applied v = if f.recoveryRun + 1 < 3 then { f with speed := v, recoveryRun := f.recoveryRun + 1 }
      else { state := .running, speed := v, stallRun := 0, recoveryRun := 0 } := by
  rw [Fan.supervise, h]
  refine (if_pos (Nat.not_lt.mp hfast)).trans ?_
  by_cases hrun : f.recoveryRun + 1 < 3
  · rw [if_pos hrun]
    exact if_neg (Nat.not_le.mpr hrun)
  · rw [if_neg hrun]
    exact if_pos (Nat.not_lt.mp hrun)

theorem supervise_stays (h : f.state = .failed) (hslow : v.toNat < stall) :
    f.supervise stall applied v = { f with speed := v, recoveryRun := 0 } := by
  rw [Fan.supervise, h]
  exact if_neg (Nat.not_le.mpr hslow)

end Supervise

theorem updFans_other {z : ZoneId} {f : FanId} (h : f.val / 4 ≠ z.val) (g : Fin 4 → Fan → Fan) (s : State) :
    (updFans z g s).fans.get f = s.fans.get f := by
  have hget : (updFans z g s).fans.get f = if f.val / 4 = z.val then g ⟨f.val % 4, by omega⟩ (s.fans.get f)
    else s.fans.get f := get_ofFn _ _
  rw [hget, if_neg h]

theorem fanStates_eq_iff (s t : State) (z : ZoneId) : s.fanStates z = t.fanStates z
    ↔ ∀ i : Fin 4, (s.fans.get (fanOf z i)).state = (t.fans.get (fanOf z i)).state := by
  simp only [State.fanStates, List.map_inj_left, List.mem_finRange, true_imp_iff]

theorem bits_four_inj : ∀ a b c d e f g h : Bool, bits [a, b, c, d] = bits [e, f, g, h] ↔ (a, b, c, d) = (e, f, g, h) := by
  decide

theorem flags_inj (x y : Zone) : x.flags = y.flags
    ↔ (x.hold, x.overheat, x.blind, x.degraded) = (y.hold, y.overheat, y.blind, y.degraded) :=
  bits_four_inj ..

theorem zoneChanged_iff (z : ZoneId) (s t : State) : zoneChanged z s t = true
    ↔ ((s.zone z).hold, (s.zone z).overheat, (s.zone z).blind, (s.zone z).degraded)
        ≠ ((t.zone z).hold, (t.zone z).overheat, (t.zone z).blind, (t.zone z).degraded)
      ∨ ∃ i : Fin 4, (s.fans.get (fanOf z i)).state ≠ (t.fans.get (fanOf z i)).state := by
  rw [zoneChanged, Bool.or_eq_true, bne_iff_ne, decide_eq_true_eq, ne_eq, flags_inj, ne_eq, fanStates_eq_iff,
    not_forall]

theorem handOn_eq (z : ZoneId) (was now : State) :
    let v := if (now.zone z).reservation = (was.zone z).reservation then now else recompute now
    handOn z was now = if v.totals.allowance ≠ now.totals.allowance ∨ (now.overBudget = true ∧ v.overBudget = false)
        ∨ ((was.zone z).holds = true ∧ (now.zone z).holds = false)
      then opportunity v else v := by
  have hsame : (if (was.zone z).reservation = (now.zone z).reservation then now else recompute now)
      = if (now.zone z).reservation = (was.zone z).reservation then now else recompute now := if_congr eq_comm rfl rfl
  intro v
  unfold handOn
  dsimp only
  rw [hsame]
  change (if (ledgerOpens now v || ((was.zone z).holds && !(now.zone z).holds)) = true then opportunity v else v) = _
  generalize v = w
  refine if_congr ?_ rfl rfl
  rw [Bool.or_eq_true, ledgerOpens_iff, Bool.and_eq_true, Bool.not_eq_true', or_assoc]

section Judged

variable (z : ZoneId) (inputs : Vector (Option Int) 8) (speeds : Vector (BitVec 16) 4) (s : State)

theorem judgedZone_sensor (k : SensorId) : (s.judgedZone z inputs speeds).sensors.get k
    = if s.settings.sensorMap.get k = some z then readSensor (inputs.get k) else s.sensors.get k := by
  have hsensors : (s.judgedZone z inputs speeds).sensors = (readSensors z inputs (superviseFans z speeds s)).sensors := by
    unfold State.judgedZone
    rw [postIf_sensors, periodRead_eq]
    rfl
  rw [hsensors]
  exact readSensors_sensor z inputs (superviseFans z speeds s) k

theorem judgedZone_ports :
    let u := s.judgedZone z inputs speeds
    let changed := ((s.zone z).hold, (s.zone z).overheat, (s.zone z).blind, (s.zone z).degraded)
        ≠ ((u.zone z).hold, (u.zone z).overheat, (u.zone z).blind, (u.zone z).degraded)
      ∨ ∃ i : Fin 4, (s.fans.get (fanOf z i)).state ≠ (u.fans.get (fanOf z i)).state
    (changed → u.ports = (post (.zone z) s).ports) ∧ (¬ changed → u.ports = s.ports) := by
  intro u changed
  obtain ⟨x, hread⟩ := periodRead_only z inputs speeds s
  have hports : (periodRead z inputs speeds s).ports = s.ports := by rw [hread]
  have hu : u = postIf (zoneChanged z s (periodRead z inputs speeds s)) (.zone z) (periodRead z inputs speeds s) := rfl
  have hzone : u.zone z = (periodRead z inputs speeds s).zone z := by rw [hu, postIf_zone]
  have hfans : u.fans = (periodRead z inputs speeds s).fans := by rw [hu, postIf_fans]
  have hchanged : zoneChanged z s (periodRead z inputs speeds s) = true ↔ changed := by
    rw [zoneChanged_iff, ← hzone, ← hfans]
  generalize periodRead z inputs speeds s = p at hports hu hchanged
  refine ⟨fun h => ?_, fun h => ?_⟩
  · rw [hu, hchanged.mpr h, postIf_true]
    exact congrArg (PerPort.map _) hports
  · rw [hu, Bool.eq_false_iff.mpr fun hc => h (hchanged.mp hc), postIf_false, hports]

end Judged

/-- Settles O40: the fans one by one, the posting by what changed, and what the period hands on. -/
theorem controlPeriodHandsOn : Obligations.ControlPeriodHandsOn := by
  intro z inputs speeds s hrun
  obtain ⟨zs, fs, ss, ps, honly⟩ := judgedZone_only z inputs speeds s
  have hfans := judgedZone_fans z inputs speeds s
  have hexec : exec (.controlPeriod z inputs speeds) s = .next (handOn z s (s.judgedZone z inputs speeds)) :=
    exec_event rfl hrun (controlPeriod_handsOn z inputs speeds s)
  have hsensor := judgedZone_sensor z inputs speeds s
  have hports := judgedZone_ports z inputs speeds s
  refine ⟨s.judgedZone z inputs speeds, by rw [honly], hexec.trans (congrArg Host.Outcome.next ?_), fun k => ?_, fun f hf => ?_,
    fun i => ?_, hports⟩
  · have htotals : (s.judgedZone z inputs speeds).totals = s.totals := by rw [honly]
    have hover : (s.judgedZone z inputs speeds).overBudget = s.overBudget := by rw [honly]
    have h := handOn_eq z s (s.judgedZone z inputs speeds)
    rw [htotals, hover] at h
    exact h
  · rw [hsensor]
    refine if_congr Iff.rfl ?_ rfl
    cases inputs.get k <;> rfl
  · rw [hfans]
    exact updFans_other hf _ s
  · have hg : (s.judgedZone z inputs speeds).fans.get (fanOf z i)
        = (s.fans.get (fanOf z i)).supervise (s.zoneCfg z).stallSpeed (s.zone z).applied (speeds.get i) := by
      rw [hfans]
      exact (superviseFans_fan z z i speeds s).trans (if_pos rfl)
    intro f g v slow
    have hg' : g = f.supervise (s.zoneCfg z).stallSpeed (s.zone z).applied v := hg
    rw [hg']
    exact ⟨fun h => supervise_absent _ _ _ _ h, fun h hslow happlied => supervise_stalls _ _ _ _ h hslow happlied,
      fun h hfast => supervise_turns _ _ _ _ h hfast, fun h hfast => supervise_recovers _ _ _ _ h hfast,
      fun h hslow => supervise_stays _ _ _ _ h hslow⟩

/-! ### The fan count (R113, R116) -/

theorem Fan.recount_eq (count i : Nat) (f : Fan) : f.recount count i
    = if count ≤ i then { f with state := .absent, stallRun := 0, recoveryRun := 0 }
      else if f.state = .absent then { f with state := .running, stallRun := 0, recoveryRun := 0 } else f := by
  unfold Fan.recount
  by_cases h : i < count
  · rw [if_pos h, if_neg (Nat.not_le.mpr h)]
  · rw [if_neg h, if_pos (Nat.not_lt.mp h)]

theorem recountFans_fans (z : ZoneId) (s : State) : (recountFans z s).fans
    = (updFans z (fun i f => f.recount (s.zoneCfg z).fanCount i.val) s).fans := by
  obtain ⟨c, h⟩ := recountFans_eq z s
  rw [h, postIf_fans]
  rfl

theorem recountFans_zones (z : ZoneId) (s : State) : (recountFans z s).zones
    = s.zones.set z { s.zone z with degraded := ((recountFans z s).zone z).degraded } := by
  have hzone := recountFans_zone z z s
  rw [if_pos rfl] at hzone
  rw [hzone]
  dsimp only
  have hf : (recountFans z s).hasFailedFan z
      = (updFans z (fun i f => f.recount (s.zoneCfg z).fanCount i.val) s).hasFailedFan z :=
    hasFailedFan_congr fun i => by rw [State.fan, recountFans_fans]; rfl
  rw [hf]
  obtain ⟨c, h⟩ := recountFans_eq z s
  rw [h, postIf_zones]
  rfl

theorem recountFans_frame (z : ZoneId) (s : State) : recountFans z s = { s with
    fans := (recountFans z s).fans
    zones := s.zones.set z { s.zone z with degraded := ((recountFans z s).zone z).degraded }
    ports := (recountFans z s).ports } := by
  have hzones := recountFans_zones z s
  have honly := recountFans_only z s
  generalize recountFans z s = t at hzones honly
  rw [← hzones]
  exact honly

theorem recountFans_ports (z : ZoneId) (s : State) : (recountFans z s).ports
    = if ((recountFans z s).zone z).degraded = (s.zone z).degraded
          ∧ ∀ i : Fin 4, ((recountFans z s).fans.get (fanOf z i)).state = (s.fans.get (fanOf z i)).state
      then s.ports else (post (.zone z) s).ports := by
  obtain ⟨u, honly, h⟩ : ∃ u : State, u = { s with zones := u.zones, fans := u.fans }
      ∧ recountFans z s = postIf (decide (u.fanStates z ≠ s.fanStates z)
          || (u.zone z).degraded != (s.zone z).degraded) (.zone z) u := ⟨_, rfl, rfl⟩
  have hzone : (recountFans z s).zone z = u.zone z := by rw [h, postIf_zone]
  have hfans : (recountFans z s).fans = u.fans := by rw [h, postIf_fans]
  have hports : u.ports = s.ports := by rw [honly]
  have hcond : (decide (u.fanStates z ≠ s.fanStates z) || (u.zone z).degraded != (s.zone z).degraded) = true
      ↔ ¬ ((u.zone z).degraded = (s.zone z).degraded
        ∧ ∀ i : Fin 4, (u.fans.get (fanOf z i)).state = (s.fans.get (fanOf z i)).state) := by
    rw [Bool.or_eq_true, decide_eq_true_eq, bne_iff_ne, ne_eq, fanStates_eq_iff, not_and_or, or_comm]
  rw [hzone, hfans, h]
  generalize (decide (u.fanStates z ≠ s.fanStates z) || (u.zone z).degraded != (s.zone z).degraded) = c at hcond
  cases c with
  | false =>
    rw [postIf_false, if_pos (not_not.mp fun hc => Bool.false_ne_true (hcond.mpr hc)), hports]
  | true =>
    rw [postIf_true, if_neg (hcond.mp rfl)]
    exact congrArg (PerPort.map _) hports

/-! ### SET ZONE (R119) -/

/-- SET ZONE as it is read. -/
def zoneArgs (m : Nat) (x fl ce fs hy su sd ho cr fc d0 d1 s0 s1 : Byte) : SetZoneArgs :=
  { zone := x, floor := present m 0 fl.toNat, ceiling := present m 1 ce.toNat, failsafe := present m 2 fs.toNat
    hysteresis := present m 3 hy.toNat, slewUp := present m 4 su.toNat, slewDown := present m 5 sd.toNat
    hold := present m 6 ho.toInt, critical := present m 7 cr.toInt, fanCount := present m 8 fc.toNat
    fanDraw := present m 9 (d0.toNat + 256 * d1.toNat), stallSpeed := present m 10 (s0.toNat + 256 * s1.toNat) }

theorem readSetZone_eq {m0 m1 : Byte} (hm : (m0.toNat + 256 * m1.toNat) % 2048 ≠ 0)
    (x fl ce fs hy su sd ho cr fc d0 d1 s0 s1 : Byte) :
    readSetZone [x, m0, m1, fl, ce, fs, hy, su, sd, ho, cr, fc, d0, d1, s0, s1]
      = some (zoneArgs (m0.toNat + 256 * m1.toNat) x fl ce fs hy su sd ho cr fc d0 d1 s0 s1) :=
  if_pos (bne_iff_ne.mpr hm)

theorem writeTemp_present (mask i : Nat) (x old : Int) :
    writeTemp (present mask i x) old = if mask.testBit i = true then max 0 (min 125 x) else old := by
  unfold present
  split <;> rfl

theorem present_isSome {α : Type} (mask i : Nat) (x : α) : (present mask i x).isSome = mask.testBit i := by
  unfold present
  cases mask.testBit i <;> rfl

theorem ZoneSettings.block_eq (c : ZoneSettings) : c.block
    = [byte c.floor, byte c.ceiling, byte c.failsafe, byte c.hysteresis, byte c.slewUp, byte c.slewDown,
        BitVec.ofInt 8 c.hold, BitVec.ofInt 8 c.critical, byte c.fanCount] ++ le16 c.fanDraw ++ le16 c.stallSpeed := rfl

/-- What written settings of a zone leave at once (R112, R113). -/
def State.zoneApplied (z : ZoneId) (new : ZoneSettings) (s : State) : State :=
  let t := recountFans z { s with settings := { s.settings with zones := s.settings.zones.set z new } }
  let top := if (s.zone z).overheat then 100 else new.ceiling
  { t with zones := t.zones.set z { t.zone z with ceiling := top, reservation := max top (s.zone z).applied } }

theorem applyZone_applied (z : ZoneId) (new : ZoneSettings) (s : State) :
    applyZone z { s with settings := s.settings.withZone z new } = s.zoneApplied z new := by
  have hzone := recountFans_zone z z { s with settings := { s.settings with zones := s.settings.zones.set z new } }
  have hcfg := recountFans_zoneCfg z z { s with settings := { s.settings with zones := s.settings.zones.set z new } }
  rw [if_pos rfl] at hzone
  have hnew : ({ s with settings := { s.settings with zones := s.settings.zones.set z new } } : State).zoneCfg z = new := by
    change (s.settings.zones.set z new).get z = new
    rw [get_set_eq, if_pos rfl]
  rw [applyZone_eq]
  unfold State.zoneApplied Settings.withZone
  dsimp only
  rw [hcfg, hnew]
  generalize recountFans z { s with settings := { s.settings with zones := s.settings.zones.set z new } } = t at hzone
  have hover : (t.zone z).overheat = (s.zone z).overheat := by rw [hzone]; rfl
  have happlied : (t.zone z).applied = (s.zone z).applied := by rw [hzone]; rfl
  rw [Zone.rated, hover, happlied]
  rfl

theorem setZoneAct_valid {a : SetZoneArgs} {s : State} {z : ZoneId} {new : ZoneSettings} (hz : a.zone.toNat = z.val)
    (hnew : a.apply (s.zoneCfg z) = new) : setZoneAct a s = report new.block
      (if new.fanCount = (s.zoneCfg z).fanCount ∧ new.fanDraw = (s.zoneCfg z).fanDraw
          ∧ ((s.zoneApplied z new).zone z).reservation = (s.zone z).reservation
        then s.zoneApplied z new else ledgerEvent (s.zoneApplied z new)) := by
  simp only [setZoneAct, fourOf_of_val hz]
  rw [hnew, applyZone_applied]
  generalize s.zoneApplied z new = t
  refine congrArg (report new.block) (if_congr ?_ rfl rfl)
  rw [Bool.and_eq_true, Bool.and_eq_true, decide_eq_true_eq, decide_eq_true_eq, decide_eq_true_eq, and_assoc]

/-- Settles O42: the values as stored, and the fan count by what it leaves of each fan. -/
theorem setZoneAndFanCount : Obligations.SetZoneAndFanCount := by
  refine ⟨fun p tag x m0 m1 fl ce fs hy su sd ho cr fc d0 d1 s0 s1 s h hm => ⟨fun hx => ?_, fun z hz => ?_⟩,
    fun z s => ?_⟩
  · refine answers_commanding h rfl (readSetZone_eq hm x fl ce fs hy su sd ho cr fc d0 d1 s0 s1) ?_
    simp only [setZoneAct, zoneArgs, fourOf_of_ge hx, refuse]
  · refine answers_commanding h rfl (readSetZone_eq hm x fl ce fs hy su sd ho cr fc d0 d1 s0 s1)
      ((setZoneAct_valid (z := z) hz ?_).trans (by rw [ZoneSettings.block_eq]; rfl))
    simp only [SetZoneArgs.apply, zoneArgs, writeNum_present, Nat.zero_max, writeTemp_present, present_isSome]
    rfl
  · have hframe := recountFans_frame z s
    have hports := recountFans_ports z s
    have hfans := recountFans_fans z s
    have hdegraded : ((recountFans z s).zone z).degraded = (recountFans z s).hasFailedFan z := by
      rw [recountFans_zone, if_pos rfl]
    have hfailed := hasFailedFan_iff (recountFans z s) z
    rw [← hdegraded] at hfailed
    intro t
    refine ⟨fun i => ?_, fun f hf => ?_, hfailed, hframe, hports⟩
    · rw [hfans]
      exact ((updFans_fan z z i _ s).trans (if_pos rfl)).trans (Fan.recount_eq _ _ _)
    · rw [hfans]
      exact updFans_other hf _ s

end Sys2Proof.Machine

/-!
PROOF. The plan table and its chains (R123, R124, R127), and the steps of a running plan (R128–R133).
-/

namespace Sys2Proof.Machine

/-! ### The steps of a running plan (R128–R133) -/

/-- The plan at the end of step `i`, whose record is `st` (R128). -/
def Plan.ended (i : SlotId) (st : Step) (pl : Plan) (r : StepResult) (n : Nat) : Plan :=
  { pl with
    steps := pl.steps.set i { pl.steps.get i with result := r, refused := n }
    notified := if st.notify then some (i, r) else pl.notified, inProgress := false }

/-- The end of step `i`, whose record is `st`: on to the next, or DONE and COMPLETE (R128, R133). -/
def State.goesOn (i : SlotId) (st : Step) (u : State) (r : StepResult) (n : Nat) : State :=
  if st.last then post .plan { u with plan := { u.plan.ended i st r n with
    engine := .done, outcome := some .complete, pendingSet := [], lost := 0 } }
  else
    let v := { u with plan := { u.plan.ended i st r n with current := some st.next } }
    if st.notify then post .plan v else v

theorem endStep_goesOn {s u : State} {i : SlotId} (hi : u.plan.current = some i) (hsteps : u.plan.steps = s.plan.steps)
    (r : StepResult) (n : Nat) : endStep r n u = u.goesOn i (s.plan.steps.get i) r n := by
  simp only [endStep, hi, State.goesOn, Plan.ended, hsteps]
  refine if_congr Iff.rfl rfl ?_
  cases (s.plan.steps.get i).notify <;> rfl

theorem endWaitSettled_empty {s : State} (h : s.plan.pendingSet = []) :
    endWaitSettled s = endStep .done (min s.plan.lost 8) { s with plan := { s.plan with lost := 0 } } := by
  rw [endWaitSettled, ← h]

theorem planStep_idle {s : State} (h : s.plan.engine ≠ .running ∨ s.plan.inProgress = true) : planStep s = s := by
  refine if_neg ?_
  rw [Bool.and_eq_true, decide_eq_true_eq, Bool.not_eq_true']
  rintro ⟨hrun, hstep⟩
  rcases h with h | h
  · exact h hrun
  · rw [h] at hstep
    cases hstep

theorem planStep_takes {s : State} {i : SlotId} (hrun : s.plan.engine = .running) (hstep : s.plan.inProgress = false)
    (hi : s.plan.current = some i) : planStep s = takeStep (s.plan.steps.get i) s := by
  have hdue : (s.plan.engine = .running && !s.plan.inProgress) = true := by simp [hrun, hstep]
  have hcur : s.plan.currentStep = some (s.plan.steps.get i) := by rw [Plan.currentStep, hi]; rfl
  rw [planStep, if_pos hdue, hcur]

theorem waitEnd_idle {s : State} (h : s.plan.engine ≠ .running ∨ ∀ n, s.plan.wait ≠ .running n) : waitEnd s = s := by
  unfold waitEnd
  split
  · next n he hw => exact h.elim (absurd he) fun h => absurd hw (h n)
  · rfl

theorem waitEnd_runs {s : State} {n : Nat} (hrun : s.plan.engine = .running) (hwait : s.plan.wait = .running n) :
    waitEnd s = endStep .done 0 { s with plan := { s.plan with wait := .idle } } := by
  rw [waitEnd, hrun, hwait, setPlan]

theorem takeStep_bays {st : Step} (h : st.action ∈ [StepAction.on, .off, .remove]) (s : State) : takeStep st s
    = endStep (if (takeBays (stepBay st.action) st.bays s).2 = [] then .done else .partly)
        (takeBays (stepBay st.action) st.bays s).2.length (takeBays (stepBay st.action) st.bays s).1 := by
  have hrun : takeStep st s = runBayStep st s := by
    simp only [List.mem_cons, List.not_mem_nil, or_false] at h
    rcases h with h | h | h <;> rw [takeStep, h]
  rw [hrun]
  simp only [runBayStep, List.isEmpty_iff]

/-! ### A step's action on one bay (R129) -/

theorem planMayAct_iff (s : State) (owner : Option Port) (b : BayId) :
    s.planMayAct owner b = true ↔ ∀ q ∈ (s.bay b).owner, owner = some q := by
  unfold State.planMayAct
  cases (s.bay b).owner with
  | none => simp
  | some q => simp [eq_comm]

theorem stepBay_refused {s : State} {b : BayId} {q : Port} (hq : q ∈ (s.bay b).owner) (hne : s.plan.owner ≠ some q)
    (act : StepAction) : stepBay act b s = (s, some .notOwner) :=
  if_neg fun h => hne ((planMayAct_iff s _ b).mp h q hq)

theorem stepBay_taken {s : State} {b : BayId} (h : ∀ q ∈ (s.bay b).owner, s.plan.owner = some q) :
    stepBay .off b s = powerOffBay b s ∧ stepBay .remove b s = prepareBay b s ∧ stepBay .on b s = onStepBay b s := by
  have hmay := (planMayAct_iff s s.plan.owner b).mpr h
  exact ⟨if_pos hmay, if_pos hmay, if_pos hmay⟩

/-- The state in which a bay has joined the pending set (R132). -/
def State.joined (b : BayId) (s : State) : State :=
  { s with plan := { s.plan with
    pendingSet := if b ∈ s.plan.pendingSet then s.plan.pendingSet else s.plan.pendingSet ++ [b] } }

theorem joinPending_eq (b : BayId) (s : State) : joinPending b s = s.joined b := by
  unfold joinPending State.joined
  split <;> rfl

theorem onStepBay_eq (b : BayId) (s : State) :
    ((s.bay b).onCase = .queue →
      onStepBay b s = (queued b .plan (fun y => { y with lastEvent := .queued }) (s.joined b), none))
    ∧ ((s.bay b).onCase = .requeue →
      onStepBay b s = (changeBay b (fun y => { y with requeue := true, origin := some .plan }) (s.joined b), none))
    ∧ ((s.bay b).onCase = .noChange → onStepBay b s = (s, none))
    ∧ ((s.bay b).onCase = .refuse → onStepBay b s = (s, some .wrongState)) := by
  obtain ⟨hqueue, hrequeue, -, -⟩ := powerOnBay_eq .plan b (s.joined b)
  obtain ⟨-, -, hsame, hrefuse⟩ := powerOnBay_eq .plan b s
  refine ⟨fun h => ?_, fun h => ?_, fun h => ?_, fun h => ?_⟩ <;> rw [onStepBay, h]
  · dsimp only
    rw [joinPending_eq]
    exact hqueue h
  · dsimp only
    rw [joinPending_eq]
    exact hrequeue h
  · exact hsame h
  · exact hrefuse h

/-- Settles O45: the current step by its action, its end by `goesOn`, one bay of it by the rights and its state. -/
theorem planStepsRunAndEnd : Obligations.PlanStepsRunAndEnd := by
  refine ⟨fun s i hrun hi => ⟨fun heng hstep => ⟨fun ha => ?_, fun ha hne => ?_, fun ha hnone => ?_, fun ha => ?_, fun ha => ?_⟩,
    fun h => exec_event rfl hrun (planStep_idle h), fun heng ⟨n, hw⟩ => ?_, fun h => exec_event rfl hrun (waitEnd_idle h),
    fun r n => endStep_goesOn (s := s) hi rfl r n⟩,
    fun b s => ⟨fun q hq hne act => stepBay_refused hq hne act, fun h => ?_⟩⟩
  · refine exec_event rfl hrun ((planStep_takes heng hstep hi).trans ?_)
    rw [takeStep, ha]
    rfl
  · refine exec_event rfl hrun ((planStep_takes heng hstep hi).trans ?_)
    rw [takeStep, ha]
    exact if_neg fun he => hne (List.isEmpty_iff.mp he)
  · refine exec_event rfl hrun ((planStep_takes heng hstep hi).trans ?_)
    rw [takeStep, ha]
    refine (if_pos (List.isEmpty_iff.mpr hnone)).trans ?_
    rw [endWaitSettled_empty hnone]
    exact endStep_goesOn (s := s) (u := { s with plan := { s.plan with lost := 0 } }) hi rfl .done (min s.plan.lost 8)
  · exact exec_event rfl hrun ((planStep_takes heng hstep hi).trans (takeStep_bays ha s))
  · refine exec_event rfl hrun ((planStep_takes heng hstep hi).trans ?_)
    rw [takeStep, ha]
  · refine exec_event rfl hrun ((waitEnd_runs heng hw).trans ?_)
    exact endStep_goesOn (s := s) (u := { s with plan := { s.plan with wait := .idle } }) hi rfl .done 0
  · obtain ⟨hoff, hremove, hon⟩ := stepBay_taken h
    obtain ⟨hqueue, hrequeue, hsame, hrefuse⟩ := onStepBay_eq b s
    rw [← hon] at hqueue hrequeue hsame hrefuse
    refine ⟨hoff, hremove, fun hb => hqueue (by rw [Bay.onCase, hb]), fun hb hi hr => hrequeue ?_, fun hb => hsame ?_,
      fun hb => hrefuse ?_⟩
    · rw [onCase_stopping hb, if_neg (by simp [hi]), if_neg (by simp [hr])]
    · rcases hb with hb | ⟨hb, hi, hr⟩
      · exact onCase_noChange hb
      · rw [onCase_stopping hb, if_neg (by simp [hi]), if_pos hr]
    · rcases hb with hb | ⟨hb, hi⟩
      · exact onCase_refuse hb
      · rw [onCase_stopping hb, if_pos hi]

/-! ### Chains (R123, R127) -/

/-- The walk along the slots `c` from `i`: only well-formed steps, each going on to the next, the last with last set. -/
def Follows (steps : Vector Step 32) : SlotId → List SlotId → Prop
  | _, [] => False
  | i, [j] => j = i ∧ (steps.get j).wellFormed = true ∧ (steps.get j).last = true
  | i, j :: k :: rest => j = i ∧ (steps.get j).wellFormed = true ∧ (steps.get j).last = false
      ∧ Follows steps (steps.get j).next (k :: rest)

theorem walk_ne_nil (steps : Vector Step 32) (n : Nat) (seen : List SlotId) (i : SlotId) :
    walk steps n seen i ≠ some [] := by
  cases n with
  | zero => exact nofun
  | succ n =>
    unfold walk
    split
    · exact nofun
    · split
      · exact nofun
      · split
        · exact nofun
        · intro h
          obtain ⟨c, -, hc⟩ := Option.map_eq_some_iff.mp h
          cases hc

theorem walk_iff (steps : Vector Step 32) : ∀ (c : List SlotId) (n : Nat) (seen : List SlotId) (i : SlotId),
    walk steps n seen i = some c ↔ Follows steps i c ∧ c.Nodup ∧ (∀ j ∈ c, j ∉ seen) ∧ c.length ≤ n
  | [], n, seen, i => iff_of_false (walk_ne_nil steps n seen i) fun h => h.1
  | j :: rest, 0, seen, i => iff_of_false nofun fun h => absurd h.2.2.2 (by simp)
  | [j], n + 1, seen, i => by
    unfold walk
    by_cases hseen : i ∈ seen
    · rw [if_pos hseen]
      exact iff_of_false nofun fun ⟨⟨hj, _⟩, _, hnew, _⟩ => hnew j List.mem_cons_self (hj ▸ hseen)
    · rw [if_neg hseen]
      cases hwf : (steps.get i).wellFormed with
      | false => exact iff_of_false nofun fun ⟨⟨hj, hw, _⟩, _⟩ => by rw [hj, hwf] at hw; cases hw
      | true =>
        cases hlast : (steps.get i).last with
        | false =>
          refine iff_of_false (fun h => ?_) fun ⟨⟨hj, _, hl⟩, _⟩ => by rw [hj, hlast] at hl; cases hl
          obtain ⟨c, hc, hcons⟩ := Option.map_eq_some_iff.mp h
          obtain ⟨-, rfl⟩ := List.cons.inj hcons
          exact walk_ne_nil steps n (i :: seen) _ hc
        | true =>
          refine ⟨fun h => ?_, fun ⟨⟨hj, _⟩, _⟩ => by rw [hj]; rfl⟩
          obtain rfl : i = j := (List.cons.inj (Option.some.inj h)).1
          exact ⟨⟨rfl, hwf, hlast⟩, List.nodup_singleton i, fun k hk => List.mem_singleton.mp hk ▸ hseen, by simp⟩
  | j :: k :: rest, n + 1, seen, i => by
    have ih := walk_iff steps (k :: rest) n (i :: seen) (steps.get i).next
    unfold walk
    by_cases hseen : i ∈ seen
    · rw [if_pos hseen]
      exact iff_of_false nofun fun ⟨⟨hj, _⟩, _, hnew, _⟩ => hnew j List.mem_cons_self (hj ▸ hseen)
    · rw [if_neg hseen]
      cases hwf : (steps.get i).wellFormed with
      | false => exact iff_of_false nofun fun ⟨⟨hj, hw, _⟩, _⟩ => by rw [hj, hwf] at hw; cases hw
      | true =>
        cases hlast : (steps.get i).last with
        | true =>
          refine iff_of_false (fun h => ?_) fun ⟨⟨hj, _, hl, _⟩, _⟩ => by rw [hj, hlast] at hl; cases hl
          obtain ⟨-, hcons⟩ := List.cons.inj (Option.some.inj h)
          cases hcons
        | false =>
          have hmap : (walk steps n (i :: seen) (steps.get i).next).map (i :: ·) = some (j :: k :: rest)
              ↔ i = j ∧ walk steps n (i :: seen) (steps.get i).next = some (k :: rest) := by
            rw [Option.map_eq_some_iff]
            refine ⟨fun ⟨c, hc, hcons⟩ => ?_, fun ⟨hij, hc⟩ => ⟨_, hc, by rw [hij]⟩⟩
            obtain ⟨rfl, rfl⟩ := List.cons.inj hcons
            exact ⟨rfl, hc⟩
          refine hmap.trans ?_
          rw [ih]
          constructor
          · rintro ⟨rfl, hrest, hnodup, hnew, hlen⟩
            refine ⟨⟨rfl, hwf, hlast, hrest⟩, List.nodup_cons.mpr ⟨fun hi => hnew i hi List.mem_cons_self, hnodup⟩,
              List.forall_mem_cons.mpr ⟨hseen, fun l hl hls => hnew l hl (List.mem_cons_of_mem i hls)⟩, ?_⟩
            simpa using hlen
          · rintro ⟨⟨rfl, -, -, hrest⟩, hnodup, hnew, hlen⟩
            obtain ⟨hj, hnodup⟩ := List.nodup_cons.mp hnodup
            obtain ⟨-, hnew⟩ := List.forall_mem_cons.mp hnew
            refine ⟨rfl, hrest, hnodup, fun l hl hls => ?_, by simpa using hlen⟩
            rcases List.mem_cons.mp hls with rfl | hls
            · exact hj hl
            · exact hnew l hl hls

theorem chain_iff_follows (pl : Plan) (i : SlotId) (c : List SlotId) :
    pl.chain i = some c ↔ Follows pl.steps i c ∧ c.Nodup := by
  rw [Plan.chain, walk_iff]
  refine ⟨fun ⟨hf, hnodup, _⟩ => ⟨hf, hnodup⟩, fun ⟨hf, hnodup⟩ => ⟨hf, hnodup, fun _ _ => List.not_mem_nil, ?_⟩⟩
  simpa using hnodup.length_le_card

/-- A chain by its first slot, its steps, its last one, and what each goes on to (R127). -/
theorem follows_iff (steps : Vector Step 32) : ∀ (i : SlotId) (c : List SlotId), Follows steps i c
    ↔ c.head? = some i ∧ (∀ j ∈ c, (steps.get j).wellFormed = true)
      ∧ (∃ before e, c = before ++ [e] ∧ (steps.get e).last = true ∧ ∀ j ∈ before, (steps.get j).last = false)
      ∧ ∀ before j k after, c = before ++ j :: k :: after → (steps.get j).next = k
  | i, [] => iff_of_false id fun h => by cases h.1
  | i, [j] => by
    constructor
    · rintro ⟨rfl, hwf, hlast⟩
      refine ⟨rfl, fun k hk => List.mem_singleton.mp hk ▸ hwf, ⟨[], j, rfl, hlast, nofun⟩, fun before k l after h => ?_⟩
      have hlen := congrArg List.length h
      simp only [List.length_cons, List.length_nil, List.length_append] at hlen
      omega
    · rintro ⟨hhead, hwf, ⟨before, e, hc, hlast, -⟩, -⟩
      obtain rfl : j = e := by
        have := congrArg List.getLast? hc
        simpa using this
      exact ⟨Option.some.inj hhead, hwf j List.mem_cons_self, hlast⟩
  | i, j :: k :: rest => by
    have ih := follows_iff steps (steps.get j).next (k :: rest)
    rw [Follows, ih]
    constructor
    · rintro ⟨rfl, hwf, hlast, hnext, hwfs, ⟨before, e, hc, hle, hbefore⟩, hgo⟩
      refine ⟨rfl, List.forall_mem_cons.mpr ⟨hwf, hwfs⟩, ⟨j :: before, e, by rw [hc]; rfl, hle,
        List.forall_mem_cons.mpr ⟨hlast, hbefore⟩⟩, fun before' l m after h => ?_⟩
      cases before' with
      | nil =>
        obtain ⟨rfl, hrest⟩ := List.cons.inj h
        obtain ⟨rfl, -⟩ := List.cons.inj hrest
        exact (Option.some.inj hnext).symm
      | cons x xs =>
        obtain ⟨-, hrest⟩ := List.cons.inj h
        exact hgo xs l m after hrest
    · rintro ⟨hhead, hwfs, ⟨before, e, hc, hle, hbefore⟩, hgo⟩
      obtain ⟨hwf, hwfs⟩ := List.forall_mem_cons.mp hwfs
      cases before with
      | nil =>
        obtain ⟨-, hrest⟩ := List.cons.inj hc
        cases hrest
      | cons x xs =>
        obtain ⟨rfl, hrest⟩ := List.cons.inj hc
        obtain ⟨hlast, hxs⟩ := List.forall_mem_cons.mp hbefore
        exact ⟨Option.some.inj hhead, hwf, hlast, by rw [hgo [] j k rest rfl]; rfl, hwfs, ⟨xs, e, hrest, hle, hxs⟩,
          fun before' l m after h => hgo (j :: before') l m after (by rw [h]; rfl)⟩

theorem baysDistinct_iff (bs : List Byte) : baysDistinct bs = true ↔ bs.Nodup ∧ ∀ x ∈ bs, x.toNat < 60 := by
  have hbay : ∀ x : Byte, (bayOf x).isSome = true ↔ x.toNat < 60 := fun x => by
    unfold bayOf
    split <;> simp_all
  simp only [baysDistinct, Bool.and_eq_true, List.all_eq_true, decide_eq_true_eq, hbay, and_comm]

theorem wellFormed_iff (st : Step) : st.wellFormed = true
    ↔ (st.action ∈ [StepAction.on, .off, .remove] ∧ 1 ≤ st.bays.length ∧ st.bays.length ≤ 8
        ∧ st.bays.Nodup ∧ ∀ x ∈ st.bays, x.toNat < 60)
      ∨ (st.action ∈ [StepAction.waitTime, .waitSettled] ∧ st.bays = []) := by
  unfold Step.wellFormed
  cases st.action <;> simp [baysDistinct_iff, and_assoc]

end Sys2Proof.Machine

/-!
PROOF. The requests on the plan table: WRITE STEP, START PLAN and CHECK PLAN (R124, R127, R138).
-/

namespace Sys2Proof.Machine

theorem active_iff (x : EngineState) : x.active = true ↔ x ∈ [EngineState.running, .paused, .aborting] := by
  cases x <;> decide

/-! ### WRITE STEP (R124) -/

theorem actionOfCode_code : ∀ x : Byte, ∀ a ∈ StepAction.ofCode x.toNat, byte a.code = x := by
  decide

theorem actionOfCode_none : ∀ x : Byte, StepAction.ofCode x.toNat = none ↔ 6 ≤ x.toNat := by
  decide

theorem flagByte_eq : ∀ x : Byte, byte (bits [x.toNat.testBit 0, x.toNat.testBit 1]) = byte (x.toNat % 4) := by
  decide

theorem slotOf_none (x : Byte) : slotOf x = none ↔ 32 ≤ x.toNat := by
  unfold slotOf
  split <;> simp_all

/-- WRITE STEP as it is read. -/
def stepArgs (sl ac fl nx w0 w1 : Byte) (bays : List Byte) : WriteStepArgs :=
  { slot := sl, action := ac, flags := fl, next := nx, wait := w0.toNat + 256 * w1.toNat, bays := bays }

theorem readWriteStep_eq {bays : List Byte} (h : bays.length < 256) (sl ac fl nx w0 w1 : Byte) :
    readWriteStep (sl :: ac :: fl :: nx :: w0 :: w1 :: byte bays.length :: bays)
      = some (stepArgs sl ac fl nx w0 w1 bays) :=
  if_pos (byte_toNat h).symm

/-- The record WRITE STEP stores (R124). -/
def writtenStep (a : StepAction) (n : SlotId) (fl w0 w1 : Byte) (bays : List Byte) : Step :=
  { action := a, bays := bays
    wait := if a = .waitTime then some (max 1 (min 6000 (w0.toNat + 256 * w1.toNat))) else none
    notify := fl.toNat.testBit 0, last := fl.toNat.testBit 1, next := n, result := .pending, refused := 0 }

theorem stepArgs_bad {sl ac fl nx w0 w1 : Byte} {bays : List Byte}
    (h : 32 ≤ sl.toNat ∨ 6 ≤ ac.toNat ∨ 32 ≤ nx.toNat ∨ 8 < bays.length) :
    (stepArgs sl ac fl nx w0 w1 bays).check = none := by
  rw [← slotOf_none, ← actionOfCode_none, ← slotOf_none] at h
  unfold WriteStepArgs.check stepArgs
  split
  · next i a n hi ha hn =>
    dsimp only at hi ha hn
    rw [hi, ha, hn] at h
    refine if_neg fun hlen => ?_
    rcases h with h | h | h | h
    · cases h
    · cases h
    · cases h
    · exact absurd hlen (Nat.not_le.mpr h)
  · rfl

theorem stepArgs_good {sl ac fl nx w0 w1 : Byte} {bays : List Byte} {i n : SlotId} {a : StepAction}
    (hi : sl.toNat = i.val) (hn : nx.toNat = n.val) (ha : a ∈ StepAction.ofCode ac.toNat) (hlen : bays.length ≤ 8) :
    (stepArgs sl ac fl nx w0 w1 bays).check = some (i, writtenStep a n fl w0 w1 bays) := by
  rw [Option.mem_def] at ha
  simp only [WriteStepArgs.check, stepArgs, slotOf_of_val hi, slotOf_of_val hn, ha]
  exact if_pos hlen

theorem take_padded {bays : List Byte} (h : bays.length ≤ 8) :
    (bays ++ List.replicate 8 (0xFF : Byte)).take 8 = bays ++ List.replicate (8 - bays.length) 0xFF := by
  rw [List.take_append, List.take_of_length_le h, List.take_replicate, Nat.min_eq_left (Nat.sub_le _ _)]

theorem writtenStep_report {sl ac fl nx w0 w1 : Byte} {bays : List Byte} {i n : SlotId} {a : StepAction}
    (hi : sl.toNat = i.val) (hn : nx.toNat = n.val) (ha : a ∈ StepAction.ofCode ac.toNat) (hlen : bays.length ≤ 8) :
    (writtenStep a n fl w0 w1 bays).report i = [sl, ac, byte (fl.toNat % 4), nx]
      ++ le16 (if a = .waitTime then max 1 (min 6000 (w0.toNat + 256 * w1.toNat)) else 0)
      ++ [0, 0, byte bays.length] ++ bays ++ List.replicate (8 - bays.length) 0xFF := by
  have hwait : (if a = .waitTime then some (max 1 (min 6000 (w0.toNat + 256 * w1.toNat))) else none).getD 0
      = if a = .waitTime then max 1 (min 6000 (w0.toNat + 256 * w1.toNat)) else 0 := getD_ite ..
  rw [Step.report, writtenStep, Step.flags]
  dsimp only
  rw [← hi, ← hn, byte_of_toNat, byte_of_toNat, actionOfCode_code ac a ha, flagByte_eq, hwait, take_padded hlen,
    ← List.append_assoc]
  rfl

theorem writeStepAct_none {a : WriteStepArgs} {s : State}
    (h : s.plan.engine ∉ [EngineState.running, .paused, .aborting]) (hc : a.check = none) :
    writeStepAct a s = refuse .badValue s := by
  rw [writeStepAct, if_neg fun hc => h ((active_iff _).mp hc), hc]

theorem writeStepAct_some {a : WriteStepArgs} {s : State} {i : SlotId} {st : Step}
    (h : s.plan.engine ∉ [EngineState.running, .paused, .aborting]) (hc : a.check = some (i, st)) :
    writeStepAct a s = report (st.report i) { s with plan := { s.plan with steps := s.plan.steps.set i st } } := by
  rw [writeStepAct, if_neg fun hc => h ((active_iff _).mp hc), hc]
  rfl

/-! ### Chains as requests name them (R127, R138) -/

section WithChain

variable {act : SlotId → List SlotId → State → Answer} {s : State} {x : Byte}

theorem withChain_busy (h : s.plan.engine ∈ [EngineState.running, .paused, .aborting]) :
    withChain act x s = refuse .busy s := if_pos ((active_iff _).mpr h)

theorem withChain_range (h : s.plan.engine ∉ [EngineState.running, .paused, .aborting]) (hx : 32 ≤ x.toNat) :
    withChain act x s = refuse .badValue s := by
  rw [withChain, if_neg fun hc => h ((active_iff _).mp hc), slotOf_of_ge hx]

theorem withChain_disorder (h : s.plan.engine ∉ [EngineState.running, .paused, .aborting]) {i : SlotId}
    (hx : x.toNat = i.val) (hc : s.plan.chain i = none) : withChain act x s = refuse .badValue s := by
  rw [withChain, if_neg fun hc => h ((active_iff _).mp hc), slotOf_of_val hx]
  dsimp only
  rw [hc]

theorem withChain_chain (h : s.plan.engine ∉ [EngineState.running, .paused, .aborting]) {i : SlotId}
    (hx : x.toNat = i.val) {c : List SlotId} (hc : s.plan.chain i = some c) : withChain act x s = act i c s := by
  rw [withChain, if_neg fun hc => h ((active_iff _).mp hc), slotOf_of_val hx]
  dsimp only
  rw [hc]

end WithChain

theorem mapSlots_get (is : List SlotId) (f : Step → Step) (steps : Vector Step 32) (j : SlotId) :
    (mapSlots is f steps).get j = if j ∈ is then f (steps.get j) else steps.get j := get_ofFn _ _

/-- Settles O44: the engine is judged first, the operands next; a chain by `Follows`. -/
theorem planTableAndChains : Obligations.PlanTableAndChains := by
  refine ⟨fun p tag sl ac fl nx w0 w1 bays s h hlen => ?_, fun pl i c => ⟨?_, fun st => wellFormed_iff st⟩⟩
  · have hwrite : ∀ {r pl t}, writeStepAct (stepArgs sl ac fl nx w0 w1 bays) (hear p s)
        = { state := t, result := r, payload := pl } → Answers (.writeStep p tag
          (sl :: ac :: fl :: nx :: w0 :: w1 :: byte bays.length :: bays)) s p 0x60 tag r pl t :=
      fun hact => answers_commanding h rfl (readWriteStep_eq hlen sl ac fl nx w0 w1) hact
    have hstart : ∀ {r pl t}, withChain (fun i c s => report [] (startPlan p i c s)) sl (hear p s)
        = { state := t, result := r, payload := pl } → Answers (.startPlan p tag [sl]) s p 0x61 tag r pl t :=
      fun hact => answers_commanding h rfl rfl hact
    have hcheck : ∀ {r pl t}, withChain (fun _ c s => report (checkPlanReport p c s) s) sl (hear p s)
        = { state := t, result := r, payload := pl } → Answers (.checkPlan p tag [sl]) s p 0x65 tag r pl t :=
      fun hact => answers_commanding h rfl rfl hact
    refine ⟨fun hbusy => ⟨hwrite ?_, hstart (withChain_busy hbusy), hcheck (withChain_busy hbusy)⟩,
      fun hidle hbad => hwrite ?_, fun hidle hgood i n hi hn a ha => hwrite ?_,
      fun hidle hx => ⟨hstart (withChain_range hidle hx), hcheck (withChain_range hidle hx)⟩,
      fun i hidle hi => ⟨fun hc => ⟨hstart (withChain_disorder hidle hi hc), hcheck (withChain_disorder hidle hi hc)⟩,
        fun c hc => ⟨hcheck (withChain_chain (s := hear p s) hidle hi hc), 
          mapSlots c (fun st => { st with result := .pending, refused := 0 }) s.plan.steps, fun j => mapSlots_get ..,
          hstart (withChain_chain (s := hear p s) hidle hi hc)⟩⟩⟩
    · exact if_pos ((active_iff _).mpr hbusy)
    · exact writeStepAct_none (s := hear p s) hidle (stepArgs_bad hbad)
    · have hbays : bays.length ≤ 8 := by
        simp only [not_or, Nat.not_lt] at hgood
        exact hgood.2.2.2
      rw [writeStepAct_some (s := hear p s) hidle (stepArgs_good hi hn ha hbays), writtenStep_report hi hn ha hbays]
      rfl
  · rw [chain_iff_follows, follows_iff]
    constructor
    · rintro ⟨⟨hhead, hwf, hlast, hnext⟩, hnodup⟩
      exact ⟨hhead, hnodup, hwf, hlast, hnext⟩
    · rintro ⟨hhead, hnodup, hwf, hlast, hnext⟩
      exact ⟨⟨hhead, hwf, hlast, hnext⟩, hnodup⟩

end Sys2Proof.Machine

/-!
PROOF. Claims, roles and the takeover (R145–R149).
-/

namespace Sys2Proof.Machine

/-! ### One bay (R145, R146) -/

/-- A multi-bay request on one bay, from either role, whose action takes it. -/
theorem answers_oneTaken {p : Port} {s t : State} (h : s.Taking p) {b : BayId} {i : Instr} {code : Nat} {tag : Byte}
    {act : BayId → State → State × Option Result}
    (hi : exec i s = .next (request .anyPort code p tag (readBayList [1, byte b.val]) (multiBay act) s))
    (hact : act b (hear p s) = (t, none)) : Answers i s p code tag .ok [0] t :=
  answers_anyPort h hi (readBayList_list (bays := [byte b.val]) (by simp) (by simp)) (multiBay_accepts hact)

/-- A multi-bay request on one bay, from either role, whose action refuses it. -/
theorem answers_oneRefused {p : Port} {s t : State} (h : s.Taking p) {b : BayId} {i : Instr} {code : Nat} {tag : Byte}
    {act : BayId → State → State × Option Result} {r : Result}
    (hi : exec i s = .next (request .anyPort code p tag (readBayList [1, byte b.val]) (multiBay act) s))
    (hact : act b (hear p s) = (t, some r)) : Answers i s p code tag r [1, byte b.val, byte r.code] t :=
  answers_anyPort h hi (readBayList_list (bays := [byte b.val]) (by simp) (by simp)) (multiBay_refuses hact)

theorem claimBay_unowned {p : Port} {b : BayId} {s : State} (h : (s.bay b).owner = none) :
    claimBay p b s = (changeBay b (fun y => { y with owner := some p }) s, none) := by
  rw [claimBay, h]

theorem claimBay_own {p : Port} {b : BayId} {s : State} (h : (s.bay b).owner = some p) : claimBay p b s = (s, none) := by
  rw [claimBay, h]
  exact if_pos rfl

theorem claimBay_held {p : Port} {b : BayId} {s : State} (h : (s.bay b).owner = some p.peer) :
    claimBay p b s = (s, some .heldByPeer) := by
  rw [claimBay, h]
  exact if_neg (peer_ne p)

/-! ### The takeover (R149) -/

/-- The claims of port `q` moved to port `p`, from a list of bays. -/
def moveClaims (p : Port) (bs : List BayId) (s : State) : State :=
  bs.foldl (fun acc b => changeBay b (fun y => { y with owner := some p }) acc) s

theorem takeover_eq (p : Port) (s : State) : takeover p s
    = setRole p (if (moveClaims p (s.ownedBy p.peer) s).plan.owner = some p.peer
      then setPlan { (moveClaims p (s.ownedBy p.peer) s).plan with owner := some p } (moveClaims p (s.ownedBy p.peer) s)
      else moveClaims p (s.ownedBy p.peer) s) := rfl

/-- Moved claims change bays, plan and change lists alone. -/
theorem moveClaims_only (p : Port) (bs : List BayId) (s : State) : ∃ bays pl ps,
    moveClaims p bs s = { s with bays := bays, plan := pl, ports := ps } := by
  refine foldl_keeps (g := fun acc b => changeBay b (fun y => { y with owner := some p }) acc)
    (P := fun u => ∃ bays pl ps, u = { s with bays := bays, plan := pl, ports := ps }) (fun u b hu => ?_) bs
    ⟨_, _, _, rfl⟩
  obtain ⟨pl, ps, hchange⟩ := changeBay_frame b (fun y => { y with owner := some p }) u
  obtain ⟨bays, pl', ps', rfl⟩ := hu
  exact ⟨_, _, _, hchange⟩

theorem moveClaims_bay (p q : Port) (s : State) (b : BayId) : (moveClaims p (s.ownedBy q) s).bay b
    = if (s.bay b).owner = some q then { s.bay b with owner := some p } else s.bay b := by
  have hnodup : (s.ownedBy q).Nodup := nodup_allBays.filter _
  have hmem : b ∈ s.ownedBy q ↔ (s.bay b).owner = some q := by
    simp only [State.ownedBy, List.mem_filter, mem_allBays, true_and, decide_eq_true_eq]
  rw [moveClaims, foldl_bay (g := fun acc b => changeBay b (fun y => { y with owner := some p }) acc)
    (h := fun _ y => { y with owner := some p }) (P := fun _ => True) (fun _ _ _ => trivial)
    (fun t b c _ => changeBay_bay b (fun y => { y with owner := some p }) t c) (s.ownedBy q) s trivial hnodup b]
  exact if_congr hmem rfl rfl

/-- A change after which its bay still stays pending, and an abort still waits for a start, leaves the plan as it is. -/
theorem changeBay_plan_same {b : BayId} {f : Bay → Bay} {s : State}
    (hstays : b ∈ s.plan.pendingSet → (f (s.bay b)).staysPending = true)
    (habort : s.plan.engine = .aborting → ∃ c ∈ s.plan.pendingSet,
      ((setBay b (f (s.bay b)) s).bay c).state = .starting ∧ ((setBay b (f (s.bay b)) s).bay c).origin = some .plan) :
    (changeBay b f s).plan = s.plan := by
  have hplan := written_plan s b (f (s.bay b))
  have hbay := fun c => written_bay s b c (f (s.bay b))
  rw [changeBay_eq]
  generalize s.written b (f (s.bay b)) = w at hplan hbay
  by_cases hb : b ∈ s.plan.pendingSet
  · obtain ⟨-, -, helse⟩ := planReview_of_mem (s := w) (by rwa [hplan])
    rw [hplan, hbay, bay_setBay_same, departed_of_stays (hstays hb)] at helse
    have hset : ¬ s.plan.Settled := fun ⟨_, _, hempty, _⟩ => by
      rw [hempty] at hb
      exact List.not_mem_nil hb
    have hrun : ¬ w.Aborted s.plan := fun ⟨heng, hnone⟩ => by
      obtain ⟨c, hc, hstart⟩ := habort heng
      exact hnone c hc (by rw [hbay]; exact hstart)
    rw [helse hset hrun]
  · rw [planReview_of_not_mem (by rwa [hplan]), hplan]

/-- The bays of the pending set stay in it whoever owns them, and an abort waits for a start. -/
def State.HoldsPlan (s : State) : Prop :=
  (∀ b ∈ s.plan.pendingSet, (s.bay b).staysPending = true)
  ∧ (s.plan.engine = .aborting → s.plan.pendingSet = []
    ∨ ∃ c ∈ s.plan.pendingSet, (s.bay c).state = .starting ∧ (s.bay c).origin = some .plan)

theorem holdsPlan_of {s : State} (h : s.plan.pendingSet = [] ∨ s.PlanOk) : s.HoldsPlan := by
  rcases h with h | h
  · refine ⟨fun b hb => ?_, fun _ => .inl h⟩
    rw [h] at hb
    exact (List.not_mem_nil hb).elim
  · obtain ⟨⟨-, -, -, -, hstays, -⟩, habort⟩ := planOk_iff.mp h
    exact ⟨hstays, fun heng => .inr ((planStarting_iff s).mp (habort heng))⟩

theorem claim_plan {s : State} (h : s.HoldsPlan) (p : Port) (b : BayId) :
    (changeBay b (fun y => { y with owner := some p }) s).plan = s.plan := by
  obtain ⟨hstays, habort⟩ := h
  by_cases hb : b ∈ s.plan.pendingSet
  · refine changeBay_plan_same (fun hb => hstays b hb) fun heng => ?_
    rcases habort heng with hempty | ⟨c, hc, hstart⟩
    · rw [hempty] at hb
      exact (List.not_mem_nil hb).elim
    · refine ⟨c, hc, ?_⟩
      rw [setBay_bay]
      by_cases hcb : c = b
      · rw [if_pos hcb]
        exact hcb ▸ hstart
      · rw [if_neg hcb]
        exact hstart
  · have hplan := written_plan s b { s.bay b with owner := some p }
    rw [changeBay_eq, planReview_of_not_mem (by rwa [hplan]), hplan]

theorem claim_holdsPlan {s : State} (h : s.HoldsPlan) (p : Port) (b : BayId) :
    (changeBay b (fun y => { y with owner := some p }) s).HoldsPlan := by
  have hbay : ∀ c, (changeBay b (fun y => { y with owner := some p }) s).bay c
      = { s.bay c with owner := if c = b then some p else (s.bay c).owner } := fun c => by
    rw [changeBay_bay]
    by_cases hc : c = b
    · rw [if_pos hc, if_pos hc, hc]
    · rw [if_neg hc, if_neg hc]
  have hplan := claim_plan h p b
  generalize changeBay b (fun y => { y with owner := some p }) s = t at hbay hplan
  obtain ⟨hstays, habort⟩ := h
  rw [State.HoldsPlan, hplan]
  refine ⟨fun c hc => ?_, fun heng => (habort heng).imp_right fun ⟨c, hc, hstart⟩ => ⟨c, hc, ?_⟩⟩
  · rw [hbay]
    exact hstays c hc
  · rw [hbay]
    exact hstart

theorem moveClaims_plan {s : State} (h : s.HoldsPlan) (p : Port) (bs : List BayId) :
    (moveClaims p bs s).plan = s.plan := by
  have hkeeps : (moveClaims p bs s).HoldsPlan ∧ (moveClaims p bs s).plan = s.plan :=
    foldl_keeps (g := fun acc b => changeBay b (fun y => { y with owner := some p }) acc)
      (P := fun u => u.HoldsPlan ∧ u.plan = s.plan)
      (fun u b hu => ⟨claim_holdsPlan hu.1 p b, (claim_plan hu.1 p b).trans hu.2⟩) bs ⟨h, rfl⟩
  exact hkeeps.2

theorem setRole_ports {p : Port} {s : State} (h : s.controlling ≠ p) : (setRole p s).Both (PortState.Holds .enclosure) := by
  have hne : (s.controlling != p) = true := bne_iff_ne.mpr h
  rw [setRole, hne, postIf_true]
  exact post_both ..

/-- What a takeover leaves (R149). -/
theorem takeover_spec (p : Port) (s : State) :
    (∀ b, (takeover p s).bay b = if (s.bay b).owner = some p.peer then { s.bay b with owner := some p } else s.bay b)
    ∧ (takeover p s).controlling = p
    ∧ (s.HoldsPlan → (takeover p s).plan
        = if s.plan.owner = some p.peer then { s.plan with owner := some p } else s.plan)
    ∧ (s.controlling ≠ p → (takeover p s).Both (PortState.Holds .enclosure))
    ∧ takeover p s = { s with
        bays := (takeover p s).bays, plan := (takeover p s).plan, ports := (takeover p s).ports, controlling := p } := by
  obtain ⟨bays, pl, ps, honly⟩ := moveClaims_only p (s.ownedBy p.peer) s
  have hbay := moveClaims_bay p p.peer s
  have hplan := fun h => moveClaims_plan (s := s) h p (s.ownedBy p.peer)
  rw [takeover_eq]
  generalize moveClaims p (s.ownedBy p.peer) s = t at honly hbay hplan
  have hu : ∃ pl', (if t.plan.owner = some p.peer then setPlan { t.plan with owner := some p } t else t)
      = { t with plan := pl' } ∧ pl' = if t.plan.owner = some p.peer then { t.plan with owner := some p } else t.plan := by
    refine ⟨_, ?_, rfl⟩
    split <;> rfl
  obtain ⟨pl', hu, hpl'⟩ := hu
  rw [hu]
  have hcontrol : ({ t with plan := pl' } : State).controlling = s.controlling := by rw [honly]
  refine ⟨fun b => ?_, ?_, fun h => ?_, fun hne => setRole_ports (by rw [hcontrol]; exact hne), ?_⟩
  · rw [setRole, postIf_only]
    exact hbay b
  · rw [setRole, postIf_only]
  · rw [setRole, postIf_only]
    dsimp only
    rw [hpl', hplan h]
  · rw [setRole, postIf_only, honly]

/-- Settles O47: one bay by its owner, the takeover by the bays it moves and what it leaves of the plan. -/
theorem claimsRolesAndTakeover : Obligations.ClaimsRolesAndTakeover := by
  refine ⟨fun p tag b s h => ⟨fun ho => answers_oneTaken h rfl (claimBay_unowned ho),
    fun ho => ⟨answers_oneTaken h rfl (claimBay_own ho), answers_oneTaken h rfl (if_pos ho)⟩,
    fun ho => answers_oneRefused h rfl (claimBay_held ho), fun ho => answers_oneRefused h rfl (if_neg ho), fun hc => ?_⟩,
    fun p tag s h => ⟨fun hlt => ?_, fun hle => ?_⟩⟩
  · refine answers_commanding ⟨h, hc⟩ rfl rfl ?_
    have hne : ((hear p s).controlling != p.peer) = true := bne_iff_ne.mpr fun he => peer_ne p (he.symm.trans hc)
    rw [handoverAct, setRole, hne, postIf_true]
    cases p <;> rfl
  · refine answers_anyPort h rfl rfl ?_
    have hsilent : ((hear p s).port p.peer).silence < (hear p s).settings.ports.silenceLimit := by
      cases p <;> exact hlt
    rw [takeoverAct, if_pos hsilent, refuse]
  · have hspeaks : ¬ ((hear p s).port p.peer).silence < (hear p s).settings.ports.silenceLimit := by
      cases p <;> exact Nat.not_lt.mpr hle
    obtain ⟨hbay, hcontrol, hplan, hpost, honly⟩ := takeover_spec p (hear p s)
    refine ⟨takeover p (hear p s), answers_anyPort h rfl rfl ?_, hbay, hcontrol, fun hp => hplan (holdsPlan_of hp),
      fun hne => ⟨(hpost hne).1.1, (hpost hne).2.1⟩, honly⟩
    rw [takeoverAct, if_neg hspeaks, byte_flag, byte_flag]
    generalize takeover p (hear p s) = t
    simp only [report, State.ownedBy, allBays, decide_eq_true_eq, bne_iff_ne, ne_eq, ite_not]
    rfl

end Sys2Proof.Machine

/-!
PROOF. The report of CHECK PLAN (7.5): what a bay of a step is judged, the bays of a chain as judged in
order, the final condition of a bay as that of the last step that does not refuse it.
-/

namespace Sys2Proof.Machine

/-- A step of action `a` refuses a bay in CHECK PLAN's judgement of a requester `p` (R138). -/
def State.stepRefuses (s : State) (p : Port) (a : StepAction) (b : BayId) : Prop :=
  (s.bay b).owner = some p.peer
    ∨ (s.bay b).state ∈ [BayState.empty, .settling]
    ∨ (a = .on ∧ ((s.bay b).state ∈ [BayState.removable, .fault]
        ∨ ((s.bay b).state = .stopping ∧ (s.bay b).removalIntended = true)))

theorem byte_bayOf {x : Byte} {b : BayId} (h : bayOf x = some b) : byte b.val = x := by
  unfold bayOf at h
  split at h
  · rw [← Option.some.inj h]
    exact byte_of_toNat x
  · cases h

theorem planMayAct_requester (s : State) (p : Port) (b : BayId) :
    s.planMayAct (some p) b = true ↔ (s.bay b).owner ≠ some p.peer := by
  rw [planMayAct_iff]
  cases (s.bay b).owner with
  | none => simp
  | some q => cases p <;> cases q <;> simp [Port.peer]

theorem onCase_eq_refuse (y : Bay) : y.onCase = .refuse ↔ y.state ∈ [BayState.empty, .settling]
    ∨ y.state ∈ [BayState.removable, .fault] ∨ (y.state = .stopping ∧ y.removalIntended = true) := by
  unfold Bay.onCase
  cases hs : y.state <;> cases hi : y.removalIntended <;> cases hr : y.requeue <;> simp

theorem onCase_acts (y : Bay) : (y.onCase = .queue ∨ y.onCase = .requeue) ↔ y.onCase ≠ .refuse
    ∧ (y.state = .off ∨ (y.state = .stopping ∧ y.requeue = false)) := by
  unfold Bay.onCase
  cases hs : y.state <;> cases hi : y.removalIntended <;> cases hr : y.requeue <;> simp

/-- The judgement of one bay of a step: none where it is refused, else on exactly for an ON step. -/
theorem checkBay_eq (s : State) (p : Port) {a : StepAction} (b : BayId)
    (ha : a ∈ [StepAction.on, .off, .remove]) [Decidable (s.stepRefuses p a b)] :
    s.checkBay p a b = if s.stepRefuses p a b then none else some (decide (a = .on)) := by
  unfold State.checkBay
  by_cases hown : s.planMayAct (some p) b = true
  · have hne := (planMayAct_requester s p b).mp hown
    rw [if_pos hown]
    simp only [List.mem_cons, List.not_mem_nil, or_false] at ha
    rcases ha with rfl | rfl | rfl
    · exact if_congr (by simp [State.stepRefuses, hne, onCase_eq_refuse]) rfl rfl
    · exact if_congr (by simp [State.stepRefuses, hne, noCarrier_iff]) rfl rfl
    · exact if_congr (by simp [State.stepRefuses, hne, noCarrier_iff]) rfl rfl
  · have hpeer : (s.bay b).owner = some p.peer := not_not.mp fun h => hown ((planMayAct_requester s p b).mpr h)
    have hno : s.stepRefuses p a b := Or.inl hpeer
    rw [if_neg hown, if_pos hno]

/-- The bays of a chain with the action of the step that names them, in order (R138). -/
def State.namedBays (s : State) (chain : List SlotId) : List (StepAction × BayId) :=
  chain.flatMap fun i =>
    (s.plan.steps.get i).bays.filterMap fun x => (bayOf x).map fun b => ((s.plan.steps.get i).action, b)

theorem judged_eq (s : State) (p : Port) (chain : List SlotId) :
    (chain.map s.plan.steps.get).flatMap (s.checkStep p)
      = (s.namedBays chain).map fun q => (q.2, s.checkBay p q.1 q.2) := by
  simp [State.namedBays, List.flatMap_map, List.map_flatMap, State.checkStep, List.map_filterMap, Option.map_map,
    Function.comp_def]

/-- Well-formed steps name bays only to take them on, off or out. -/
theorem namedBays_action {s : State} {chain : List SlotId}
    (hwf : ∀ i ∈ chain, (s.plan.steps.get i).wellFormed = true) :
    ∀ q ∈ s.namedBays chain, q.1 ∈ [StepAction.on, .off, .remove] := by
  intro q hq
  obtain ⟨i, hi, hq⟩ := List.mem_flatMap.mp hq
  obtain ⟨x, hx, hq⟩ := List.mem_filterMap.mp hq
  obtain ⟨b, -, rfl⟩ := Option.map_eq_some_iff.mp hq
  rcases (wellFormed_iff _).mp (hwf i hi) with ⟨ha, -⟩ | ⟨-, hnone⟩
  · exact ha
  · rw [hnone] at hx
    cases hx

/-- The fold of CHECK PLAN over the judged bays finds the last judgement that took the bay on or off. -/
theorem finalOn_eq {α : Type} (start : Bool) (b : BayId) (g : α × BayId → Option Bool) (l : List (α × BayId)) :
    finalOn start b (l.map fun q => (q.2, g q))
      = ((l.reverse.find? fun q => decide (q.2 = b ∧ (g q).isSome = true)).bind g).getD start := by
  unfold finalOn
  induction l using List.reverseRecOn with
  | nil => rfl
  | append_singleton l q ih =>
    rw [List.map_append, List.foldl_append, ih, List.reverse_append, List.reverse_singleton, List.singleton_append,
      List.find?_cons]
    cases hg : g q with
    | none => simp [hg]
    | some v => by_cases hb : q.2 = b <;> simp [hb, hg]

theorem startsOn_iff (y : Bay) : y.startsOn = true ↔ y.state ∈ [BayState.ready, .starting, .queued] := by
  unfold Bay.startsOn
  cases y.state <;> decide

theorem neverAdmits_iff (s : State) (p : Port) (st : Step) : s.neverAdmits p st = true ↔ st.action = .on
    ∧ ∃ b : BayId, byte b.val ∈ st.bays ∧ ¬ s.stepRefuses p .on b
      ∧ ((s.bay b).state = .off ∨ ((s.bay b).state = .stopping ∧ (s.bay b).requeue = false))
      ∧ s.totals.allowance < (s.profile b).surge := by
  have hno : ∀ b, ¬ s.stepRefuses p .on b
      ↔ (s.bay b).owner ≠ some p.peer ∧ (s.bay b).onCase ≠ .refuse := fun b => by
    rw [Ne, Ne, onCase_eq_refuse, State.stepRefuses, not_or, eq_self, true_and]
  simp only [State.neverAdmits, Bool.and_eq_true, decide_eq_true_eq, List.any_eq_true, hno]
  refine and_congr_right fun _ => ⟨fun ⟨x, hx, h⟩ => ?_, fun ⟨b, hb, ⟨hown, hcase⟩, hstate, hsurge⟩ => ?_⟩
  · cases hb : bayOf x with
    | none => rw [hb] at h; cases h
    | some b =>
      rw [hb] at h
      simp only [Bool.and_eq_true, Bool.or_eq_true, decide_eq_true_eq, planMayAct_requester, onCase_acts] at h
      obtain ⟨⟨hown, hsurge⟩, hcase, hstate⟩ := h
      refine ⟨b, ?_, ⟨hown, hcase⟩, hstate, hsurge⟩
      rwa [byte_bayOf hb]
  · refine ⟨_, hb, ?_⟩
    rw [bayOf_byte]
    simp only [Bool.and_eq_true, Bool.or_eq_true, decide_eq_true_eq, planMayAct_requester, onCase_acts]
    exact ⟨⟨hown, hsurge⟩, hcase, hstate⟩

/-- The final condition of a bay, from the last step of a chain that names it without refusing it (R138). -/
theorem finalOn_judged {s : State} {p : Port} {chain : List SlotId}
    (hwf : ∀ i ∈ chain, (s.plan.steps.get i).wellFormed = true) (b : BayId) {takes : StepAction × BayId → Bool}
    (htakes : ∀ q, takes q = true ↔ q.2 = b ∧ ¬ s.stepRefuses p q.1 q.2) :
    finalOn (s.bay b).startsOn b ((chain.map s.plan.steps.get).flatMap (s.checkStep p))
      = ((s.namedBays chain).reverse.find? takes).elim
          (decide ((s.bay b).state ∈ [BayState.ready, .starting, .queued])) fun q => decide (q.1 = .on) := by
  classical
  have hjudge : ∀ q ∈ (s.namedBays chain).reverse,
      s.checkBay p q.1 q.2 = if s.stepRefuses p q.1 q.2 then none else some (decide (q.1 = .on)) :=
    fun q hq => checkBay_eq s p q.2 (namedBays_action hwf q (List.mem_reverse.mp hq))
  have hfind : ((s.namedBays chain).reverse.find? fun q => decide (q.2 = b ∧ (s.checkBay p q.1 q.2).isSome = true))
      = (s.namedBays chain).reverse.find? takes := by
    refine List.find?_congr fun q hq => Bool.eq_iff_iff.mpr ?_
    rw [htakes, decide_eq_true_iff, hjudge q hq]
    by_cases h : s.stepRefuses p q.1 q.2 <;> simp [h]
  have hstart : (s.bay b).startsOn = decide ((s.bay b).state ∈ [BayState.ready, .starting, .queued]) :=
    Bool.eq_iff_iff.mpr ((startsOn_iff _).trans decide_eq_true_iff.symm)
  rw [judged_eq, finalOn_eq _ b fun q => s.checkBay p q.1 q.2, hfind, hstart]
  cases hfound : (s.namedBays chain).reverse.find? takes with
  | none => rfl
  | some q =>
    have hq : ¬ s.stepRefuses p q.1 q.2 := ((htakes q).mp (List.find?_some hfound)).2
    rw [Option.bind_some, hjudge q (List.mem_of_find?_eq_some hfound), if_neg hq]
    rfl

/-- The refusals CHECK PLAN counts are those of the bays the chain names. -/
theorem refusals_judged {s : State} {p : Port} {chain : List SlotId}
    (hwf : ∀ i ∈ chain, (s.plan.steps.get i).wellFormed = true) {refused : StepAction × BayId → Bool}
    (hrefused : ∀ q, refused q = true ↔ s.stepRefuses p q.1 q.2) :
    (((chain.map s.plan.steps.get).flatMap (s.checkStep p)).countP fun q => q.2.isNone)
      = ((s.namedBays chain).filter refused).length := by
  classical
  rw [judged_eq, List.countP_map, ← List.countP_eq_length_filter]
  refine List.countP_congr fun q hq => ?_
  rw [hrefused, Function.comp_apply, checkBay_eq s p q.2 (namedBays_action hwf q hq)]
  by_cases h : s.stepRefuses p q.1 q.2 <;> simp [h]

/-- Settles O23: the report is the fold of the judgements of the bays the chain names. -/
theorem checkPlanProjection : Obligations.CheckPlanProjection := by
  intro p chain s hwf no named on load never refusals
  have hon : ∀ b, finalOn (s.bay b).startsOn b ((chain.map s.plan.steps.get).flatMap (s.checkStep p)) = on b := by
    intro b
    rw [finalOn_judged hwf b (takes := fun q => decide (q.2 = b ∧ ¬ no q.1 q.2)) fun q => decide_eq_true_iff]
    simp only [on, named, State.namedBays]
    generalize List.find? _ _ = found
    cases found <;> rfl
  have hload : (allBays.map fun b => if on b = true then (s.profile b).run else 0).sum = load := by
    simp only [load, cond_eq_ite, allBays]
  have hnever : (chain.find? fun i => s.neverAdmits p (s.plan.steps.get i)) = never := by
    refine List.find?_congr fun i _ => Bool.eq_iff_iff.mpr ?_
    rw [neverAdmits_iff, decide_eq_true_iff]
    rfl
  have hrefusals : (((chain.map s.plan.steps.get).flatMap (s.checkStep p)).countP fun q => q.2.isNone)
      = refusals := refusals_judged hwf fun q => decide_eq_true_iff
  refine ⟨refusalByte refusals, ?_, fun h => if_pos h⟩
  unfold checkPlanReport
  simp only [hon, hload, hnever, hrefusals, byte_flag, decide_eq_true_eq]
  cases never <;> rfl

end Sys2Proof.Machine

/-!
PROOF. Pausing, resuming and aborting a plan (R135–R137). An abort withdraws and then clears the bays of the
pending set, each by a change of that bay; between the bays the engine is ABORTING, or DONE already where the
review of a bay found no other to wait for.
-/

namespace Sys2Proof.Machine

/-! ### One bay of an abort -/

/-- A bay that an abort withdraws from the queue (R136, step 2). -/
def Bay.withdraws (y : Bay) : Bool := y.state = .queued && y.origin = some .plan

/-- A bay whose return an abort takes away (R136, step 3). -/
def Bay.clears (y : Bay) : Bool := y.state = .stopping && y.origin = some .plan

/-- The record of a bay whose return an abort has taken away (R136, step 3). -/
def Bay.cleared (y : Bay) : Bay := { y with requeue := false, origin := none }

theorem withdraws_iff (y : Bay) : y.withdraws = true ↔ y.state = .queued ∧ y.origin = some .plan := by
  rw [Bay.withdraws, Bool.and_eq_true, decide_eq_true_eq, decide_eq_true_eq]

theorem clears_iff (y : Bay) : y.clears = true ↔ y.state = .stopping ∧ y.origin = some .plan := by
  rw [Bay.clears, Bool.and_eq_true, decide_eq_true_eq, decide_eq_true_eq]

theorem abortQueued_eq (b : BayId) (s : State) : abortQueued b s
    = if (s.bay b).withdraws = true then changeBay b Bay.withdrawn (dequeue b s) else s := rfl

theorem abortStopping_eq (b : BayId) (s : State) : abortStopping b s
    = if (s.bay b).clears = true then changeBay b Bay.cleared s else s := rfl

theorem abortQueued_bay (b c : BayId) (s : State) : (abortQueued b s).bay c
    = if c = b then (if (s.bay b).withdraws = true then (s.bay b).withdrawn else s.bay b) else s.bay c := by
  rw [abortQueued_eq]
  split
  · exact changeBay_bay ..
  · split
    · next hc => rw [hc]
    · rfl

theorem abortStopping_bay (b c : BayId) (s : State) : (abortStopping b s).bay c
    = if c = b then (if (s.bay b).clears = true then (s.bay b).cleared else s.bay b) else s.bay c := by
  rw [abortStopping_eq]
  split
  · exact changeBay_bay ..
  · split
    · next hc => rw [hc]
    · rfl

/-! ### The postings of an abort -/

/-- An abort is under way or done, and the plan is posted. -/
def State.AbortRuns (s : State) : Prop :=
  (s.plan.engine = .aborting ∨ s.plan.engine = .done) ∧ ∀ q : Port, Obj.plan ∈ (s.port q).changes

theorem post_changes (o : Obj) (q : Port) (s : State) : ((post o s).port q).changes
    = if o ∈ (s.port q).changes then (s.port q).changes else (s.port q).changes ++ [o] := by
  rw [port_post]
  rfl

/-- The review of a bay during an abort posts no more than the plan, which stands in the lists. -/
theorem planReview_changes {s : State} (h : s.AbortRuns) (b : BayId) (q : Port) :
    ((planReview b s).port q).changes = (s.port q).changes := by
  obtain ⟨he, hposted⟩ := h
  by_cases hb : b ∈ s.plan.pendingSet
  · obtain ⟨-, haborted, helse⟩ := planReview_of_mem hb
    have hset : ¬ (s.plan.departed b (s.bay b)).Settled := fun hs => by
      have hrun := (departed_engine ..).symm.trans hs.1
      rcases he with he | he <;> exact absurd (he.symm.trans hrun) (by decide)
    by_cases ha : s.Aborted (s.plan.departed b (s.bay b))
    · rw [haborted ha, finishAbort, post_changes]
      exact if_pos (hposted q)
    · rw [helse hset ha]
      rfl
  · rw [planReview_of_not_mem hb]

theorem written_changes (b : BayId) (y : Bay) (q : Port) (s : State) : ((s.written b y).port q).changes
    = if (setBay b y s).report b ≠ s.report b ∧ Obj.bay b ∉ (s.port q).changes then (s.port q).changes ++ [.bay b]
      else (s.port q).changes := by
  rw [written_cases]
  by_cases hr : (setBay b y s).report b = s.report b
  · rw [if_pos hr, if_neg fun h => h.1 hr]
    rfl
  · rw [if_neg hr, post_changes, port_setBay]
    by_cases hm : Obj.bay b ∈ (s.port q).changes
    · rw [if_pos hm, if_neg fun h => h.2 hm]
    · rw [if_neg hm, if_pos ⟨hr, hm⟩]

theorem written_abortRuns {s : State} (h : s.AbortRuns) (b : BayId) (y : Bay) : (s.written b y).AbortRuns := by
  obtain ⟨he, hposted⟩ := h
  refine ⟨by rwa [written_plan], fun q => ?_⟩
  rw [written_changes]
  split
  · exact List.mem_append_left _ (hposted q)
  · exact hposted q

/-- A change of a bay during an abort posts that bay, where a reportable field changed. -/
theorem changeBay_changes {s : State} (h : s.AbortRuns) (b : BayId) (f : Bay → Bay) (q : Port) :
    ((changeBay b f s).port q).changes = if (setBay b (f (s.bay b)) s).report b ≠ s.report b
      ∧ Obj.bay b ∉ (s.port q).changes then (s.port q).changes ++ [.bay b] else (s.port q).changes := by
  rw [changeBay_eq, planReview_changes (written_abortRuns h b _), written_changes]

theorem changeBay_abortRuns {s : State} (h : s.AbortRuns) (b : BayId) (f : Bay → Bay) : (changeBay b f s).AbortRuns := by
  have hw := written_abortRuns h b (f (s.bay b))
  rw [changeBay_eq]
  refine ⟨planReview_engine b hw.1, fun q => ?_⟩
  rw [planReview_changes hw]
  exact hw.2 q

theorem abortQueued_abortRuns {s : State} (h : s.AbortRuns) (b : BayId) : (abortQueued b s).AbortRuns := by
  rw [abortQueued_eq]
  split
  · exact changeBay_abortRuns (s := dequeue b s) h b _
  · exact h

theorem abortStopping_abortRuns {s : State} (h : s.AbortRuns) (b : BayId) : (abortStopping b s).AbortRuns := by
  rw [abortStopping_eq]
  split
  · exact changeBay_abortRuns h b _
  · exact h

/-- A withdrawn bay is posted: its state changed. -/
theorem abortQueued_changes {s : State} (h : s.AbortRuns) (b : BayId) (q : Port) :
    ((abortQueued b s).port q).changes = if (s.bay b).withdraws = true ∧ Obj.bay b ∉ (s.port q).changes
      then (s.port q).changes ++ [.bay b] else (s.port q).changes := by
  rw [abortQueued_eq]
  by_cases hw : (s.bay b).withdraws = true
  · have hne : (setBay b (s.bay b).withdrawn (dequeue b s)).report b ≠ (dequeue b s).report b := fun he => by
      have hstate := congrArg BayReport.state he
      rw [State.report, State.report, bay_setBay_same] at hstate
      exact absurd (hstate.trans ((withdraws_iff _).mp hw).1) (by simp [Bay.withdrawn])
    rw [if_pos hw, changeBay_changes (s := dequeue b s) h]
    exact if_congr ⟨fun h => ⟨hw, h.2⟩, fun h => ⟨hne, h.2⟩⟩ rfl rfl
  · rw [if_neg hw, if_neg fun h => hw h.1]

/-- A bay whose return is taken away is posted, where it was to return: requeue on stop is reportable. -/
theorem abortStopping_changes {s : State} (h : s.AbortRuns) (b : BayId) (q : Port) :
    ((abortStopping b s).port q).changes
      = if ((s.bay b).clears && (s.bay b).requeue) = true ∧ Obj.bay b ∉ (s.port q).changes
        then (s.port q).changes ++ [.bay b] else (s.port q).changes := by
  rw [abortStopping_eq]
  by_cases hc : (s.bay b).clears = true
  · have hreport : (setBay b (s.bay b).cleared s).report b ≠ s.report b ↔ (s.bay b).requeue = true := by
      rw [State.report, State.report, bay_setBay_same]
      cases hr : (s.bay b).requeue <;> simp [Bay.cleared]
    rw [if_pos hc, changeBay_changes h]
    exact if_congr (by rw [hreport, hc, Bool.true_and]) rfl rfl
  · rw [if_neg hc, if_neg (by simp [hc])]

/-- Bays taken one after another post themselves in order, each that is taken and does not stand in the list. -/
theorem foldl_changes {g : State → BayId → State} {P : State → Prop} {took : Bay → Bool} {q : Port}
    (keep : ∀ t b, P t → P (g t b)) (other : ∀ t b c, c ≠ b → (g t b).bay c = t.bay c)
    (posts : ∀ t b, P t → ((g t b).port q).changes = if took (t.bay b) = true ∧ Obj.bay b ∉ (t.port q).changes
      then (t.port q).changes ++ [.bay b] else (t.port q).changes) :
    ∀ (bs : List BayId) (s : State), P s → bs.Nodup → ((bs.foldl g s).port q).changes = (s.port q).changes
      ++ (bs.filter fun b => decide (took (s.bay b) = true ∧ Obj.bay b ∉ (s.port q).changes)).map Obj.bay
  | [], s, _, _ => by simp
  | b :: bs, s, hs, hnodup => by
    obtain ⟨hb, hbs⟩ := List.nodup_cons.mp hnodup
    have hrest : bs.filter (fun c => decide (took ((g s b).bay c) = true ∧ Obj.bay c ∉ ((g s b).port q).changes))
        = bs.filter fun c => decide (took (s.bay c) = true ∧ Obj.bay c ∉ (s.port q).changes) := by
      refine List.filter_congr fun c hc => decide_eq_decide.mpr ?_
      have hne : c ≠ b := fun h => hb (h ▸ hc)
      rw [other s b c hne, posts s b hs]
      split <;> simp [hne]
    rw [List.foldl_cons, foldl_changes keep other posts bs _ (keep s b hs) hbs, hrest, posts s b hs, List.filter_cons]
    by_cases ht : took (s.bay b) = true ∧ Obj.bay b ∉ (s.port q).changes
    · rw [if_pos ht, if_pos (decide_eq_true ht)]
      simp
    · rw [if_neg ht, if_neg (by simpa using ht)]

/-! ### The queue and the engine during an abort -/

theorem abortQueued_queue (b : BayId) (s : State) :
    (abortQueued b s).queue = if (s.bay b).withdraws = true then removeEntry b s.queue else s.queue := by
  rw [abortQueued_eq]
  split
  · exact changeBay_queue ..
  · rfl

theorem abortStopping_queue (b : BayId) (s : State) : (abortStopping b s).queue = s.queue := by
  rw [abortStopping_eq]
  split
  · exact changeBay_queue ..
  · rfl

/-- The withdrawals take the entries of the bays they withdraw from the queue, and no other. -/
theorem foldl_abortQueued_queue : ∀ (bs : List BayId) (s : State), bs.Nodup →
    (bs.foldl (fun acc b => abortQueued b acc) s).queue
      = s.queue.filter fun e => !decide (e.bay ∈ bs ∧ (s.bay e.bay).withdraws = true)
  | [], s, _ => by simp
  | b :: bs, s, hnodup => by
    obtain ⟨hb, hbs⟩ := List.nodup_cons.mp hnodup
    have hbay : ∀ c ∈ bs, (abortQueued b s).bay c = s.bay c := fun c hc => by
      have hne : c ≠ b := fun h => hb (h ▸ hc)
      rw [abortQueued_bay, if_neg hne]
    have hrest : (abortQueued b s).queue.filter
          (fun e => !decide (e.bay ∈ bs ∧ ((abortQueued b s).bay e.bay).withdraws = true))
        = (abortQueued b s).queue.filter fun e => !decide (e.bay ∈ bs ∧ (s.bay e.bay).withdraws = true) := by
      refine List.filter_congr fun e _ => congrArg _ (decide_eq_decide.mpr ?_)
      exact and_congr_right fun he => by rw [hbay e.bay he]
    rw [List.foldl_cons, foldl_abortQueued_queue bs _ hbs, hrest, abortQueued_queue]
    split
    · next hw =>
      rw [removeEntry, List.filter_filter]
      refine List.filter_congr fun e _ => ?_
      by_cases he : e.bay = b <;> simp [he, hw]
    · next hw =>
      refine List.filter_congr fun e _ => ?_
      by_cases he : e.bay = b <;> simp [he, hw]

theorem foldl_abortStopping_queue (bs : List BayId) (s : State) :
    (bs.foldl (fun acc b => abortStopping b acc) s).queue = s.queue :=
  foldl_keeps (P := fun t => t.queue = s.queue) (fun t b ht => (abortStopping_queue b t).trans ht) bs rfl

/-- A bay starts for the plan (R136, R137). -/
def State.StartsForPlan (s : State) (b : BayId) : Prop := (s.bay b).state = .starting ∧ (s.bay b).origin = some .plan

/-- An abort of the plan of `s` at `t`: under way with the starting bays of its set pending still, or done where no
bay of the set was starting. -/
def State.AbortsTo (s t : State) : Prop :=
  (∀ b, t.StartsForPlan b ↔ s.StartsForPlan b)
  ∧ ((t.plan.engine = .aborting ∧ ∀ b, s.StartsForPlan b → (b ∈ t.plan.pendingSet ↔ b ∈ s.plan.pendingSet))
    ∨ (t.plan.engine = .done ∧ t.plan.outcome = some .aborted ∧ t.plan.pendingSet = []
      ∧ ∀ b ∈ s.plan.pendingSet, ¬ s.StartsForPlan b))

theorem departed_mem {b c : BayId} (hne : c ≠ b) (y : Bay) (pl : Plan) :
    c ∈ (pl.departed b y).pendingSet ↔ c ∈ pl.pendingSet := by
  unfold Plan.departed
  split
  · exact Iff.rfl
  · exact List.mem_erase_of_ne hne

/-- A change of a bay that does not start for the plan leaves an abort under way, or ends it. -/
theorem changeBay_abortsTo {s t : State} (h : s.AbortsTo t) {b : BayId} {f : Bay → Bay} (hb : ¬ t.StartsForPlan b)
    (hf : ¬ ((f (t.bay b)).state = .starting ∧ (f (t.bay b)).origin = some .plan)) : s.AbortsTo (changeBay b f t) := by
  obtain ⟨hstarts, hplan⟩ := h
  have hkeep : ∀ c, (changeBay b f t).StartsForPlan c ↔ t.StartsForPlan c := fun c => by
    by_cases hc : c = b
    · rw [hc]
      refine iff_of_false ?_ hb
      rwa [State.StartsForPlan, changeBay_bay_same]
    · rw [State.StartsForPlan, changeBay_bay_ne hc, State.StartsForPlan]
  refine ⟨fun c => (hkeep c).trans (hstarts c), ?_⟩
  have hw : (t.written b (f (t.bay b))).plan = t.plan := written_plan ..
  rw [changeBay_eq]
  rcases hplan with ⟨he, hset⟩ | ⟨he, hout, hempty, hnone⟩
  · have hmem : ∀ c, s.StartsForPlan c → (c ∈ (t.plan.departed b (f (t.bay b))).pendingSet ↔ c ∈ s.plan.pendingSet) :=
      fun c hc => by
        have hne : c ≠ b := fun h => hb (h ▸ (hstarts c).mpr hc)
        rw [departed_mem hne, hset c hc]
    by_cases hmember : b ∈ t.plan.pendingSet
    · obtain ⟨-, haborted, helse⟩ := planReview_of_mem (s := t.written b (f (t.bay b))) (by rwa [hw])
      rw [hw, written_bay, bay_setBay_same] at haborted helse
      have hnot : ¬ (t.plan.departed b (f (t.bay b))).Settled := fun hs => by
        have := (he.symm.trans (departed_engine ..).symm).trans hs.1
        cases this
      by_cases ha : (t.written b (f (t.bay b))).Aborted (t.plan.departed b (f (t.bay b)))
      · rw [haborted ha]
        refine .inr ⟨rfl, rfl, rfl, fun c hc hstart => ha.2 c ((hmem c hstart).mpr hc) ?_⟩
        have hnow := (hkeep c).mpr ((hstarts c).mpr hstart)
        rw [State.StartsForPlan, changeBay_eq, planReview_bay] at hnow
        exact hnow
      · rw [helse hnot ha]
        exact .inl ⟨(departed_engine ..).trans he, hmem⟩
    · rw [planReview_of_not_mem (by rwa [hw]), hw]
      exact .inl ⟨he, hset⟩
  · rw [planReview_of_not_mem (by rw [hw, hempty]; exact List.not_mem_nil), hw]
    exact .inr ⟨he, hout, hempty, hnone⟩

theorem abortQueued_abortsTo {s t : State} (h : s.AbortsTo t) (b : BayId) : s.AbortsTo (abortQueued b t) := by
  rw [abortQueued_eq]
  split
  · next hw =>
    obtain ⟨hstate, -⟩ := (withdraws_iff _).mp hw
    refine changeBay_abortsTo (t := dequeue b t) h (fun hs => ?_) (by simp [Bay.withdrawn])
    exact absurd (hs.1.symm.trans hstate) (by decide)
  · exact h

theorem abortStopping_abortsTo {s t : State} (h : s.AbortsTo t) (b : BayId) : s.AbortsTo (abortStopping b t) := by
  rw [abortStopping_eq]
  split
  · next hc =>
    obtain ⟨hstate, -⟩ := (clears_iff _).mp hc
    refine changeBay_abortsTo h (fun hs => ?_) (by simp [Bay.cleared])
    exact absurd (hs.1.symm.trans hstate) (by decide)
  · exact h

/-! ### A whole abort -/

/-- The state in which an abort has withdrawn the queued bays of its set (R136, steps 1 and 2). -/
def State.withdrawn (s : State) : State := s.plan.pendingSet.foldl (fun acc b => abortQueued b acc) (enterAborting s)

/-- The state in which an abort has taken every bay of its set (R136, steps 1 to 3). -/
def State.cleared (s : State) : State := s.plan.pendingSet.foldl (fun acc b => abortStopping b acc) s.withdrawn

theorem skipRest_planStarting (s : State) : (skipRest s).planStarting = s.planStarting := by
  obtain ⟨v, hv⟩ := skipRest_eq s
  rw [hv]
  rfl

theorem abortPlan_eq (s : State) : abortPlan s
    = if s.cleared.planStarting = true then skipRest s.cleared else finishAbort (skipRest s.cleared) := by
  rw [← skipRest_planStarting, abortPlan]
  unfold State.cleared State.withdrawn
  exact rfl

theorem enterAborting_abortRuns (s : State) : (enterAborting s).AbortRuns :=
  ⟨.inl rfl, fun q => by
    rw [enterAborting, port_post]
    exact mem_changes_post _ _⟩

theorem withdrawn_abortRuns (s : State) : s.withdrawn.AbortRuns :=
  foldl_keeps (P := State.AbortRuns) (fun _ b h => abortQueued_abortRuns h b) _ (enterAborting_abortRuns s)

theorem cleared_abortRuns (s : State) : s.cleared.AbortRuns :=
  foldl_keeps (P := State.AbortRuns) (fun _ b h => abortStopping_abortRuns h b) _ (withdrawn_abortRuns s)

theorem cleared_abortsTo (s : State) : s.AbortsTo s.cleared :=
  foldl_keeps (P := s.AbortsTo) (fun _ b h => abortStopping_abortsTo h b) _
    (foldl_keeps (P := s.AbortsTo) (fun _ b h => abortQueued_abortsTo h b) _
      ⟨fun _ => Iff.rfl, .inl ⟨rfl, fun _ _ => Iff.rfl⟩⟩)

theorem withdrawn_bay {s : State} (h : s.plan.pendingSet.Nodup) (c : BayId) : s.withdrawn.bay c
    = if c ∈ s.plan.pendingSet ∧ (s.bay c).withdraws = true then (s.bay c).withdrawn else s.bay c := by
  rw [State.withdrawn, foldl_bay (P := fun _ => True) (h := fun _ y => if y.withdraws = true then y.withdrawn else y)
    (fun _ _ _ => trivial) (fun t b c _ => abortQueued_bay b c t) _ _ trivial h, ite_and]
  rfl

theorem cleared_bay {s : State} (h : s.plan.pendingSet.Nodup) (c : BayId) : s.cleared.bay c
    = if c ∈ s.plan.pendingSet ∧ (s.bay c).withdraws = true then (s.bay c).withdrawn
      else if c ∈ s.plan.pendingSet ∧ (s.bay c).clears = true then (s.bay c).cleared else s.bay c := by
  rw [State.cleared, foldl_bay (P := fun _ => True) (h := fun _ y => if y.clears = true then y.cleared else y)
    (fun _ _ _ => trivial) (fun t b c _ => abortStopping_bay b c t) _ _ trivial h, withdrawn_bay h]
  by_cases hc : c ∈ s.plan.pendingSet
  · by_cases hw : (s.bay c).withdraws = true
    · have hno : (s.bay c).withdrawn.clears = false := rfl
      simp [hc, hw, hno]
    · simp [hc, hw]
  · simp [hc]

theorem cleared_queue {s : State} (h : s.plan.pendingSet.Nodup) : s.cleared.queue
    = s.queue.filter fun e => !decide (e.bay ∈ s.plan.pendingSet ∧ (s.bay e.bay).withdraws = true) := by
  rw [State.cleared, foldl_abortStopping_queue, State.withdrawn, foldl_abortQueued_queue _ _ h]
  rfl

/-- The bays of the pending set that an abort takes and that do not stand in the list of a port. -/
def State.newlyPosted (s : State) (took : Bay → Bool) (q : Port) : List BayId :=
  s.plan.pendingSet.filter fun b => decide (took (s.bay b) = true ∧ Obj.bay b ∉ (s.port q).changes)

/-- A withdrawn bay is OFF and is not taken again. -/
theorem withdrawn_not_returning (y : Bay) : (y.withdrawn.clears && y.withdrawn.requeue) = false := rfl

theorem cleared_changes {s : State} (h : s.plan.pendingSet.Nodup) (q : Port) : (s.cleared.port q).changes
    = (if Obj.plan ∈ (s.port q).changes then (s.port q).changes else (s.port q).changes ++ [Obj.plan])
      ++ (s.newlyPosted Bay.withdraws q).map Obj.bay
      ++ (s.newlyPosted (fun y => y.clears && y.requeue) q).map Obj.bay := by
  have hstart : ((enterAborting s).port q).changes
      = if Obj.plan ∈ (s.port q).changes then (s.port q).changes else (s.port q).changes ++ [Obj.plan] :=
    post_changes ..
  have hbays : ∀ b, Obj.bay b ∉ ((enterAborting s).port q).changes ↔ Obj.bay b ∉ (s.port q).changes := fun b => by
    rw [hstart]
    split <;> simp
  have hwithdrawn : (s.withdrawn.port q).changes = ((enterAborting s).port q).changes
      ++ (s.newlyPosted Bay.withdraws q).map Obj.bay := by
    rw [State.withdrawn, foldl_changes (P := State.AbortRuns) (took := Bay.withdraws)
      (fun t b ht => abortQueued_abortRuns ht b) (fun t b c hc => by rw [abortQueued_bay, if_neg hc])
      (fun t b ht => abortQueued_changes ht b q) _ _ (enterAborting_abortRuns s) h]
    simp only [hbays]
    rfl
  have hcleared : s.plan.pendingSet.filter (fun b => decide (((s.withdrawn.bay b).clears && (s.withdrawn.bay b).requeue)
        = true ∧ Obj.bay b ∉ (s.withdrawn.port q).changes))
      = s.newlyPosted (fun y => y.clears && y.requeue) q := by
    refine List.filter_congr fun b hb => decide_eq_decide.mpr ?_
    rw [withdrawn_bay h, hwithdrawn, List.mem_append, not_or, hbays]
    by_cases hw : (s.bay b).withdraws = true
    · have hno : ((s.bay b).clears && (s.bay b).requeue) = false := by
        obtain ⟨hstate, -⟩ := (withdraws_iff _).mp hw
        simp [Bay.clears, hstate]
      rw [if_pos ⟨hb, hw⟩, withdrawn_not_returning]
      simp [hno]
    · simp [hb, hw, State.newlyPosted]
  rw [State.cleared, foldl_changes (P := State.AbortRuns) (took := fun y => y.clears && y.requeue)
    (fun t b ht => abortStopping_abortRuns ht b) (fun t b c hc => by rw [abortStopping_bay, if_neg hc])
    (fun t b ht => abortStopping_changes ht b q) _ _ (withdrawn_abortRuns s) h, hcleared, hwithdrawn, hstart]

theorem planStarting_iff_exists (s : State) :
    s.planStarting = true ↔ ∃ b ∈ s.plan.pendingSet, s.StartsForPlan b := by
  simp only [State.planStarting, List.any_eq_true, Bool.and_eq_true, decide_eq_true_eq, State.StartsForPlan]

/-- Where a bay of the set starts for the plan, the abort waits for it; else it is done (R136, step 4). -/
theorem abortPlan_engine (s : State) :
    ((∃ b ∈ s.plan.pendingSet, s.StartsForPlan b) → (abortPlan s).plan.engine = .aborting)
    ∧ ((¬ ∃ b ∈ s.plan.pendingSet, s.StartsForPlan b) → (abortPlan s).plan.engine = .done
      ∧ (abortPlan s).plan.outcome = some .aborted ∧ (abortPlan s).plan.pendingSet = []) := by
  obtain ⟨hstarts, hplan⟩ := cleared_abortsTo s
  have hstarting := planStarting_iff_exists s.cleared
  obtain ⟨v, hv⟩ := skipRest_eq s.cleared
  rw [abortPlan_eq, hv]
  generalize s.cleared = t at hstarts hplan hstarting ⊢
  refine ⟨fun ⟨b, hb, hstart⟩ => ?_, fun hnone => ?_⟩
  · rcases hplan with ⟨he, hset⟩ | ⟨-, -, -, hnone⟩
    · rw [if_pos (hstarting.mpr ⟨b, (hset b hstart).mpr hb, (hstarts b).mpr hstart⟩)]
      exact he
    · exact absurd hstart (hnone b hb)
  · rw [if_neg fun h => ?_]
    · exact ⟨rfl, rfl, rfl⟩
    · obtain ⟨b, hb, hstart⟩ := hstarting.mp h
      have hs := (hstarts b).mp hstart
      rcases hplan with ⟨-, hset⟩ | ⟨-, -, hempty, -⟩
      · exact hnone ⟨b, (hset b hs).mp hb, hs⟩
      · rw [hempty] at hb
        exact List.not_mem_nil hb

/-- The end of an abort changes the plan and posts it; bays, queue and lists stay. -/
theorem abortPlan_keeps (s : State) : (∀ c, (abortPlan s).bay c = s.cleared.bay c)
    ∧ (abortPlan s).queue = s.cleared.queue ∧ ∀ q, ((abortPlan s).port q).changes = (s.cleared.port q).changes := by
  obtain ⟨-, hposted⟩ := cleared_abortRuns s
  obtain ⟨v, hv⟩ := skipRest_eq s.cleared
  rw [abortPlan_eq, hv]
  generalize s.cleared = t at hposted ⊢
  split
  · exact ⟨fun _ => rfl, rfl, fun _ => rfl⟩
  · refine ⟨fun _ => rfl, rfl, fun q => ?_⟩
    rw [finishAbort, post_changes]
    exact if_pos (hposted q)

end Sys2Proof.Machine

/-!
PROOF. The requests of a paused plan: PAUSE, RESUME and ABORT PLAN by the engine they find (R135–R137).
-/

namespace Sys2Proof.Machine

theorem pauseAct_running {s : State} (h : s.plan.engine = .running) : pauseAct () s
    = report [] (post .plan { s with plan := { s.plan with engine := .paused, wait := s.plan.wait.paused } }) := by
  rw [pauseAct, h]
  rfl

theorem pauseAct_paused {s : State} (h : s.plan.engine = .paused) : pauseAct () s = report [] s := by
  rw [pauseAct, h]

theorem resumeAct_running {s : State} (h : s.plan.engine = .running) : resumeAct () s = report [] s := by
  rw [resumeAct, h]

theorem resumeAct_paused {s : State} (h : s.plan.engine = .paused) : resumeAct () s = report [] (resumePlan s) := by
  rw [resumeAct, h]

theorem abortAct_aborting {s : State} (h : s.plan.engine = .aborting) : abortAct () s = report [] s := by
  rw [abortAct, h]

theorem abortAct_paused {s : State} (h : s.plan.engine = .paused) : abortAct () s = report [] (abortPlan s) := by
  rw [abortAct, h]

/-- PAUSE and RESUME are refused of an engine that is neither RUNNING nor PAUSED (R135). -/
theorem pauseResume_refused {s : State} (h : s.plan.engine ∈ [EngineState.idle, .aborting, .done]) :
    pauseAct () s = refuse .wrongState s ∧ resumeAct () s = refuse .wrongState s := by
  rw [pauseAct, resumeAct]
  simp only [List.mem_cons, List.not_mem_nil, or_false] at h
  rcases h with he | he | he <;> rw [he] <;> exact ⟨rfl, rfl⟩

/-- ABORT is refused of an engine that is neither PAUSED nor ABORTING (R136). -/
theorem abortAct_refused {s : State} (h : s.plan.engine ∈ [EngineState.idle, .running, .done]) :
    abortAct () s = refuse .wrongState s := by
  rw [abortAct]
  simp only [List.mem_cons, List.not_mem_nil, or_false] at h
  rcases h with he | he | he <;> rw [he]

theorem remaining_eq (pl : Plan) : pl.remaining = (pl.current.bind pl.chain).getD [] := by
  unfold Plan.remaining
  cases pl.current <;> rfl

theorem skipRest_steps (s : State) (j : SlotId) : (skipRest s).plan.steps.get j
    = if j ∈ s.plan.remaining ∧ (s.plan.steps.get j).result = .pending
      then { s.plan.steps.get j with result := .skipped } else s.plan.steps.get j := by
  unfold skipRest setPlan
  dsimp only
  rw [mapSlots_get, ite_and]

/-- An abort with an empty pending set marks the rest SKIPPED and is done (R136). -/
theorem abortPlan_empty {s : State} (h : s.plan.pendingSet = []) : abortPlan s = finishAbort (skipRest (enterAborting s)) := by
  have hc : s.cleared = enterAborting s := by
    rw [State.cleared, State.withdrawn, h]
    rfl
  have hnone : (enterAborting s).planStarting = false := by
    rw [State.planStarting, enterAborting_frame, post_plan, h]
    rfl
  rw [abortPlan_eq, hc, hnone]
  exact if_neg Bool.false_ne_true

/-- The plan after an abort with an empty pending set. -/
theorem abortPlan_empty_spec {s : State} (h : s.plan.pendingSet = []) :
    abortPlan s = { s with plan := (abortPlan s).plan, ports := (abortPlan s).ports }
    ∧ (abortPlan s).plan = { s.plan with
        engine := .done, outcome := some .aborted, lost := 0, wait := .idle, inProgress := false
        steps := (abortPlan s).plan.steps }
    ∧ ∀ j, (abortPlan s).plan.steps.get j
      = if j ∈ (s.plan.current.bind s.plan.chain).getD [] ∧ (s.plan.steps.get j).result = .pending
        then { s.plan.steps.get j with result := .skipped } else s.plan.steps.get j := by
  have hsteps := skipRest_steps (enterAborting s)
  have hremaining : (enterAborting s).plan.remaining = (s.plan.current.bind s.plan.chain).getD [] := remaining_eq _
  rw [hremaining] at hsteps
  obtain ⟨v, hv⟩ := skipRest_eq (enterAborting s)
  rw [abortPlan_empty h]
  rw [hv] at hsteps ⊢
  refine ⟨rfl, ?_, hsteps⟩
  rw [finishAbort_plan, enterAborting_frame, ← h]
  rfl

theorem hear_changes (p q : Port) (s : State) : ((hear p s).port q).changes = (s.port q).changes := by
  cases p <;> cases q <;> rfl

/-- In a paused plan in order, a bay of the pending set that is STOPPING is to return for the plan (R132). -/
theorem newlyPosted_clears {s : State} (h : s.PlanOk) (q : Port) (b : BayId) :
    b ∈ s.newlyPosted (fun y => y.clears && y.requeue) q ↔ b ∈ s.plan.pendingSet ∧ (s.bay b).origin = some .plan
      ∧ (s.bay b).state = .stopping ∧ Obj.bay b ∉ (s.port q).changes := by
  obtain ⟨⟨-, -, -, -, hstays, -⟩, -⟩ := planOk_iff.mp h
  rw [State.newlyPosted, List.mem_filter, decide_eq_true_eq, Bool.and_eq_true, clears_iff]
  refine and_congr_right fun hb => ⟨fun ⟨⟨⟨hs, ho⟩, _⟩, hm⟩ => ⟨ho, hs, hm⟩, fun ⟨ho, hs, hm⟩ => ⟨⟨⟨hs, ho⟩, ?_⟩, hm⟩⟩
  have hstay := hstays b hb
  simp only [State.Stays, Bay.staysPending, hs, Bool.and_eq_true] at hstay
  exact hstay.1

theorem newlyPosted_withdraws (s : State) (q : Port) (b : BayId) :
    b ∈ s.newlyPosted Bay.withdraws q ↔ b ∈ s.plan.pendingSet ∧ (s.bay b).origin = some .plan
      ∧ (s.bay b).state = .queued ∧ Obj.bay b ∉ (s.port q).changes := by
  rw [State.newlyPosted, List.mem_filter, decide_eq_true_eq, withdraws_iff]
  tauto

/-- Settles O46: each request by the engine it finds; an abort by the fold of its withdrawals and clearings. -/
theorem pauseResumeAndAbort : Obligations.PauseResumeAndAbort := by
  refine ⟨fun p tag s h => ?_, fun p tag s h hqueue hplan he => ?_⟩
  · have hpause : ∀ {r t}, pauseAct () (hear p s) = { state := t, result := r, payload := [] } →
        Answers (.pausePlan p tag []) s p 0x62 tag r [] t := fun hact => answers_commanding h rfl rfl hact
    have hresume : ∀ {r t}, resumeAct () (hear p s) = { state := t, result := r, payload := [] } →
        Answers (.resumePlan p tag []) s p 0x63 tag r [] t := fun hact => answers_commanding h rfl rfl hact
    have habort : ∀ {r t}, abortAct () (hear p s) = { state := t, result := r, payload := [] } →
        Answers (.abortPlan p tag []) s p 0x64 tag r [] t := fun hact => answers_commanding h rfl rfl hact
    refine ⟨fun he => hpause ?_, fun he => hpause ?_, fun he => hpause ?_, fun he => hresume ?_, fun he => hresume ?_,
      fun he => hresume ?_, fun he hempty => ?_, fun he => habort ?_, fun he => habort ?_⟩
    · rw [pauseAct_running (s := hear p s) he, hear_plan]
      cases hw : s.plan.wait <;> rfl
    · exact pauseAct_paused (s := hear p s) he
    · exact (pauseResume_refused (s := hear p s) he).1
    · rw [resumeAct_paused (s := hear p s) he, resumePlan_eq, hear_plan]
      refine congrArg (report []) ?_
      cases hw : s.plan.wait <;> exact if_congr (by rw [Bool.and_eq_true, List.isEmpty_iff]; rfl) rfl rfl
    · exact resumeAct_running (s := hear p s) he
    · exact (pauseResume_refused (s := hear p s) he).2
    · obtain ⟨honly, hplan, hsteps⟩ := abortPlan_empty_spec (s := hear p s) hempty
      have hposted := (cleared_abortRuns (hear p s)).2
      have hkeeps := (abortPlan_keeps (hear p s)).2.2
      refine ⟨abortPlan (hear p s), habort (abortAct_paused (s := hear p s) he), honly, ?_, ?_, hplan, hsteps⟩
      · have := hposted .a
        rwa [← hkeeps .a] at this
      · have := hposted .b
        rwa [← hkeeps .b] at this
    · exact abortAct_aborting (s := hear p s) he
    · exact abortAct_refused (s := hear p s) he
  · obtain ⟨⟨-, -, hnodup, -⟩, -⟩ := planOk_iff.mp hplan
    obtain ⟨hbay, hq, hchanges⟩ := abortPlan_keeps (hear p s)
    obtain ⟨hwaits, hdone⟩ := abortPlan_engine (hear p s)
    have hcleared := cleared_bay (s := hear p s) hnodup
    have hposts := cleared_changes (s := hear p s) hnodup
    have hleft := cleared_queue (s := hear p s) hnodup
    simp only [hear_changes, hear_plan, hear_bay, hear_queue, withdraws_iff, clears_iff] at hcleared hposts hleft hwaits hdone
    refine ⟨abortPlan (hear p s), answers_commanding h rfl rfl (abortAct_paused (s := hear p s) he), fun b => ?_,
      fun q => ?_, ?_, ?_⟩
    · intro mine
      rw [hbay, hcleared]
      refine ⟨fun ⟨hb, ho⟩ hs => ?_, fun ⟨hb, ho⟩ hs => ?_, fun hother => ?_⟩
      · rw [if_pos ⟨hb, hs, ho⟩, Bay.withdrawn]
      · rw [if_neg (by simp [hs]), if_pos ⟨hb, hs, ho⟩, Bay.cleared]
      · have hneither : ∀ st ∈ [BayState.queued, .stopping],
            ¬ (b ∈ s.plan.pendingSet ∧ (s.bay b).state = st ∧ (s.bay b).origin = some .plan) :=
          fun st hst ⟨hb, hs, ho⟩ => hother.elim (fun hm => hm ⟨hb, ho⟩) fun hn => hn (hs ▸ hst)
        rw [if_neg (hneither _ (by decide)), if_neg (hneither _ (by decide))]
    · refine ⟨s.newlyPosted Bay.withdraws q, s.newlyPosted (fun y => y.clears && y.requeue) q,
        ⟨hnodup.filter _, newlyPosted_withdraws s q⟩, ⟨hnodup.filter _, newlyPosted_clears hplan q⟩, ?_⟩
      rw [hchanges, hposts]
      simp only [State.newlyPosted, hear_plan, hear_bay, hear_changes]
    · rw [hq, hleft]
      refine List.filter_congr fun e hmem => congrArg _ (decide_eq_decide.mpr ?_)
      have hs : (s.bay e.bay).state = .queued := (hqueue.1 e.bay).mpr (List.mem_map_of_mem hmem)
      rw [hs, eq_self, true_and]
    · split
      · next hstart =>
        obtain ⟨b, hb, hs, ho⟩ := hstart
        exact hwaits ⟨b, hb, hs, ho⟩
      · next hstart => exact hdone fun ⟨b, hb, hs, ho⟩ => hstart ⟨b, hb, hs, ho⟩

end Sys2Proof.Machine

/-!
PROOF. RESTART and the reset pin (10.3, 10.5). At the release of the pin every object stands in the lists already, so
the arrivals and the recompute post nothing.
-/

namespace Sys2Proof.Machine

theorem isSaving_iff (x : SettingsState) : x.isSaving = true ↔ ∃ f c, x = .saving f c := by
  cases x <;> simp [SettingsState.isSaving]

/-! ### The reset pin -/

/-- A posting of an object that stands in both lists, with both attention outputs asserted, changes nothing. -/
theorem post_standing {o : Obj} {s : State} (h : s.Both (PortState.Holds o)) : post o s = s := by
  obtain ⟨⟨hla, haa⟩, hlb, hab⟩ := h
  have hport : ∀ x : PortState, x.Holds o → x.post o = x := fun x ⟨hm, ha⟩ => by
    unfold PortState.post
    rw [if_pos hm, ← ha]
  have hports : s.ports.map (·.post o) = s.ports := by
    rw [PerPort.map, hport _ ⟨hla, haa⟩, hport _ ⟨hlb, hab⟩]
  rw [post, hports]

theorem reset_holds (o : Obj) : PortState.reset.Holds o := by
  refine ⟨?_, rfl⟩
  show o ∈ Obj.all
  cases o <;> simp [Obj.all]

/-- The state at the release of the pin with the given bay records. -/
def State.releasedWith (s : State) (powerGood : BitVec 4) (bays : Vector Bay 60) : State :=
  { s.released powerGood with bays := bays }

theorem releasedWith_holds (s : State) (powerGood : BitVec 4) (bays : Vector Bay 60) (o : Obj) :
    (s.releasedWith powerGood bays).Both (PortState.Holds o) := ⟨reset_holds o, reset_holds o⟩

/-- A bay present enters SETTLING; its posting finds it in the lists. -/
theorem settleStart_released (s : State) (powerGood : BitVec 4) (bays : Vector Bay 60) (b : BayId) :
    settleStart b (s.releasedWith powerGood bays) = s.releasedWith powerGood
      (bays.set b { bays.get b with state := .settling, startMark := true, timer := .settle 1000 }) := by
  have hpost := post_standing (releasedWith_holds s powerGood
    (bays.set b { bays.get b with state := .settling, startMark := true, timer := .settle 1000 }) (.bay b))
  have hwritten : (s.releasedWith powerGood bays).written b
      { bays.get b with state := .settling, startMark := true, timer := .settle 1000 }
    = s.releasedWith powerGood
      (bays.set b { bays.get b with state := .settling, startMark := true, timer := .settle 1000 }) := by
    rw [written_cases]
    split
    · rfl
    · exact hpost
  have hempty : ∀ v, (s.releasedWith powerGood v).plan.pendingSet = [] := fun _ => rfl
  rw [settleStart, changeBay_eq]
  refine (congrArg (planReview b) hwritten).trans (planReview_of_not_mem ?_)
  rw [hempty]
  exact List.not_mem_nil

theorem arrivals_released (s : State) (presence : BitVec 60) (powerGood : BitVec 4) : ∃ bays,
    allBays.foldl (fun u b => if presence.getLsbD b.val then settleStart b u else u) (s.released powerGood)
      = s.releasedWith powerGood bays
    ∧ ∀ b, bays.get b = if presence.getLsbD b.val then
        { Bay.reset with state := .settling, startMark := true, timer := .settle 1000 } else Bay.reset := by
  have hfold := foldl_bay (g := fun u b => if presence.getLsbD b.val then settleStart b u else u)
    (h := fun b y => if presence.getLsbD b.val then
      { y with state := .settling, startMark := true, timer := .settle 1000 } else y)
    (P := fun u => ∃ bays, u = s.releasedWith powerGood bays)
    (fun t b ⟨bays, ht⟩ => by
      rw [ht]
      split
      · exact ⟨_, settleStart_released ..⟩
      · exact ⟨_, rfl⟩)
    (fun t b c ⟨bays, ht⟩ => by
      rw [ht]
      split
      · rw [settleStart_released]
        exact get_set_eq ..
      · split
        · next hc => rw [hc]
        · rfl) allBays (s.released powerGood) ⟨_, rfl⟩ nodup_allBays
  obtain ⟨bays, hb⟩ := foldl_keeps (g := fun u b => if presence.getLsbD b.val then settleStart b u else u)
    (P := fun u => ∃ bays, u = s.releasedWith powerGood bays) (fun t b ⟨bays, ht⟩ => by
      rw [ht]
      split
      · exact ⟨_, settleStart_released ..⟩
      · exact ⟨_, rfl⟩) allBays (s := s.released powerGood) ⟨_, rfl⟩
  refine ⟨bays, hb, fun b => ?_⟩
  have hbay := hfold b
  rw [hb, if_pos (mem_allBays b)] at hbay
  have hreset : (s.released powerGood).bay b = Bay.reset := reset_bay b
  rw [hreset] at hbay
  exact hbay

/-- Of the factory's two supplies those are good whose lines are high (R50). -/
theorem released_goodSupplies (s : State) (powerGood : BitVec 4) (bays : Vector Bay 60) :
    (s.releasedWith powerGood bays).goodSupplies
      = (if powerGood.getLsbD 0 then [0] else []) ++ (if powerGood.getLsbD 1 then [1] else []) := by
  have hgood : ∀ i, (s.releasedWith powerGood bays).supplyGood i
      = ((SupplySettings.factory.get i).installed && powerGood.getLsbD i.val) := fun i =>
    congrArg ((SupplySettings.factory.get i).installed && ·) (congrArg Supply.good (get_ofFn _ i))
  have hfactory : (SupplySettings.factory.get 0).installed = true ∧ (SupplySettings.factory.get 1).installed = true
      ∧ (SupplySettings.factory.get 2).installed = false ∧ (SupplySettings.factory.get 3).installed = false := by decide
  obtain ⟨h0, h1, h2, h3⟩ := hfactory
  have hgood0 : (s.releasedWith powerGood bays).supplyGood 0 = powerGood.getLsbD 0 := by
    rw [hgood, h0, Bool.true_and, Fin.val_zero]
  have hgood1 : (s.releasedWith powerGood bays).supplyGood 1 = powerGood.getLsbD 1 := by
    rw [hgood, h1, Bool.true_and, Fin.val_one]
  have hgood2 : (s.releasedWith powerGood bays).supplyGood 2 = false := by rw [hgood, h2, Bool.false_and]
  have hgood3 : (s.releasedWith powerGood bays).supplyGood 3 = false := by rw [hgood, h3, Bool.false_and]
  have hall : List.finRange 4 = [0, 1, 2, 3] := by decide
  rw [State.goodSupplies, hall]
  simp only [List.filter_cons, List.filter_nil, hgood0, hgood1, hgood2, hgood3]
  cases powerGood.getLsbD 0 <;> cases powerGood.getLsbD 1 <;> rfl

theorem releasedWith_collapse (s : State) (powerGood : BitVec 4) (bays : Vector Bay 60) :
    (s.releasedWith powerGood bays).collapse = !(powerGood.getLsbD 0 || powerGood.getLsbD 1) := by
  have h : (s.releasedWith powerGood bays).collapse = (s.releasedWith powerGood bays).goodSupplies.isEmpty := rfl
  rw [h, released_goodSupplies]
  cases powerGood.getLsbD 0 <;> cases powerGood.getLsbD 1 <;> rfl

theorem releasedWith_redundancyLost (s : State) (powerGood : BitVec 4) (bays : Vector Bay 60) :
    (s.releasedWith powerGood bays).gross.2 = !(powerGood.getLsbD 0 && powerGood.getLsbD 1) := by
  have hone : (s.releasedWith powerGood bays).settings.budget.reserve = .one := rfl
  rw [State.gross, hone]
  dsimp only
  rw [released_goodSupplies]
  cases powerGood.getLsbD 0 <;> cases powerGood.getLsbD 1 <;> rfl

/-- With no bay committed a recompute at the release leaves the drawer within its budget, and posts nothing. -/
theorem recompute_released {s : State} {powerGood : BitVec 4} {bays : Vector Bay 60}
    (h : (s.releasedWith powerGood bays).committed = 0) :
    recompute (s.releasedWith powerGood bays) = { s.releasedWith powerGood bays with
      totals := (s.releasedWith powerGood bays).computeTotals
      redundancyLost := (s.releasedWith powerGood bays).gross.2 } := by
  have hwithin : decide ((s.releasedWith powerGood bays).computeTotals.allowance
      < (s.releasedWith powerGood bays).computeTotals.committed) = false := by
    have hc : (s.releasedWith powerGood bays).computeTotals.committed = 0 := h
    rw [hc]
    rfl
  have hpost : ∀ (lost : Bool) (c : Totals), post .enclosure { s.releasedWith powerGood bays with
        totals := c, overBudget := false, redundancyLost := lost, shed := none }
      = { s.releasedWith powerGood bays with totals := c, overBudget := false, redundancyLost := lost, shed := none } :=
    fun lost c => post_standing ⟨reset_holds _, reset_holds _⟩
  rw [recompute]
  dsimp only
  rw [hwithin]
  unfold postIf
  split
  · exact hpost _ _
  · rfl

theorem reset_release_spec (presence : BitVec 60) (powerGood : BitVec 4) (s : State) : ∃ bays,
    resetRelease presence powerGood s = { s.releasedWith powerGood bays with
      totals := (s.releasedWith powerGood bays).computeTotals
      redundancyLost := (s.releasedWith powerGood bays).gross.2 }
    ∧ (s.releasedWith powerGood bays).committed = 0
    ∧ ∀ b, bays.get b = if presence.getLsbD b.val then
        { Bay.reset with state := .settling, startMark := true, timer := .settle 1000 } else Bay.reset := by
  obtain ⟨bays, hfold, hbays⟩ := arrivals_released s presence powerGood
  have hcommitted : (s.releasedWith powerGood bays).committed = 0 := by
    refine committed_unpowered (Bool.eq_false_iff.mpr fun h => ?_)
    obtain ⟨b, hb⟩ := (anyPowered_iff _).mp h
    have hbay : (s.releasedWith powerGood bays).bay b = bays.get b := rfl
    rw [hbay, hbays] at hb
    split at hb <;> exact absurd hb (by simp [Bay.reset])
  refine ⟨bays, ?_, hcommitted, hbays⟩
  rw [← recompute_released hcommitted, ← hfold]
  rfl

/-- Settles O50: a request and a pin that write their fields; the release by its arrivals and one recompute. -/
theorem restartAndReset : Obligations.RestartAndReset := by
  refine ⟨fun p tag s => ⟨fun h => ⟨fun hbusy => ?_, fun hidle hsave => ?_⟩, ?_⟩, fun presence powerGood s => ?_⟩
  · refine answers_commanding h rfl rfl (if_pos ?_)
    rw [Bool.or_eq_true, active_iff, isSaving_iff]
    exact hbusy
  · have hno : ¬ ((hear p s).plan.engine.active || (hear p s).store.isSaving) = true := by
      rw [Bool.or_eq_true, active_iff, isSaving_iff, not_or]
      exact ⟨hidle, fun ⟨f, c, hs⟩ => hsave f c hs⟩
    exact ⟨_, fun b => get_vmap _ _ b, answers_commanding h rfl rfl (if_neg hno)⟩
  · exact ⟨_, fun b => get_vmap _ _ b, rfl⟩
  · obtain ⟨bays, hrelease, hcommitted, hbays⟩ := reset_release_spec presence powerGood s
    have hmemory : (if s.store.isSaving = true then none else s.memory)
        = match s.store with | .saving _ _ => none | _ => s.memory := by
      cases s.store <;> rfl
    have htotals := computeTotals_recompute (s.releasedWith powerGood bays)
    rw [recompute_released hcommitted] at htotals
    refine ⟨_, congrArg Host.Outcome.next hrelease, hbays, fun i => get_ofFn _ i,
      releasedWith_collapse s powerGood bays, releasedWith_redundancyLost s powerGood bays, hcommitted, htotals.symm, ?_⟩
    exact congrArg (fun m => { State.reset with
      pending := s.pending, memory := m, bays := bays, supplies := suppliesAtRelease powerGood
      collapse := (s.releasedWith powerGood bays).collapse, totals := (s.releasedWith powerGood bays).computeTotals
      redundancyLost := (s.releasedWith powerGood bays).gross.2 }) hmemory

end Sys2Proof.Machine

/-!
PROOF. Saved settings (10.1, 10.4): the image of a snapshot, what makes an image good, and the settings a good image
gives, part by part.
-/

namespace Sys2Proof.Machine

/-! ### Codes -/

section TwoCodes

variable {α : Type} {f : Nat → Option α} {u v : α}

theorem TwoCodes.isSome_iff (h : TwoCodes f u v) (n : Nat) : (f n).isSome = true ↔ n < 2 := by
  obtain ⟨h0, h1, hge⟩ := h
  rcases n with _ | _ | n
  · simp [h0]
  · simp [h1]
  · simp [hge (n + 2) (by omega)]

theorem TwoCodes.getD_eq (h : TwoCodes f u v) {n : Nat} (hn : n < 2) (d : α) : (f n).getD d = if n = 0 then u else v := by
  obtain ⟨h0, h1, -⟩ := h
  rcases n with _ | _ | n
  · simp [h0]
  · simp [h1]
  · omega

end TwoCodes

theorem yesNo_getD {n : Nat} (hn : n < 2) : (yesNoOfCode n).getD false = decide (n = 1) := by
  rw [yesNo_twoCodes.getD_eq hn]
  rcases n with _ | _ | n
  · rfl
  · rfl
  · omega

theorem portOfCode_isSome (n : Nat) : (portOfCode n).isSome = true ↔ n = 1 ∨ n = 2 := by
  rcases n with _ | _ | _ | n <;> simp [portOfCode]

theorem portOfCode_getD {n : Nat} (hn : n = 1 ∨ n = 2) : (portOfCode n).getD .a = if n = 1 then .a else .b := by
  rcases hn with rfl | rfl <;> rfl

theorem mapEntryOfCode_isSome (n : Nat) : (mapEntryOfCode n).isSome = true ↔ n < 4 ∨ n = 255 := by
  unfold mapEntryOfCode
  split
  · next h => simp [h]
  · next h => simp [h]

/-- A known map entry names its zone, or none with 255. -/
theorem mapEntryOfCode_getD {n : Nat} (hn : n < 4 ∨ n = 255) (z : ZoneId) :
    ((mapEntryOfCode n).getD none = some z ↔ n = z.val) ∧ ((mapEntryOfCode n).getD none = none ↔ n = 255) := by
  unfold mapEntryOfCode
  split
  · next h =>
    refine ⟨?_, iff_of_false (by simp) (by omega)⟩
    rw [Option.getD_some, Option.some_inj, Fin.ext_iff]
  · next h =>
    obtain rfl : n = 255 := hn.resolve_left h
    exact ⟨iff_of_false (by simp) (by omega), iff_of_true (by simp) rfl⟩

/-! ### Vectors -/

theorem all_toList_iff {α : Type} {n : Nat} (v : Vector α n) (p : α → Bool) :
    v.toList.all p = true ↔ ∀ i : Fin n, p (v.get i) = true := by
  rw [List.all_eq_true]
  refine ⟨fun h i => h _ (by simp [Vector.get_eq_getElem]), fun h x hx => ?_⟩
  obtain ⟨i, hi, rfl⟩ := Vector.mem_iff_getElem.mp (Vector.mem_toList_iff.mp hx)
  exact h ⟨i, hi⟩

theorem vector_eq_of_get {α : Type} {n : Nat} {v w : Vector α n} (h : ∀ i : Fin n, v.get i = w.get i) : v = w :=
  Vector.ext fun i hi => h ⟨i, hi⟩

/-! ### The image of a snapshot -/

/-- What makes an image good: values its settings know, curves and map entries in order (R164). -/
theorem image_good_iff (m : Image) : m.good = true ↔
    (∀ b : BayId, (m.bays.get b).sheddable < 2 ∧ (m.bays.get b).buttonEnabled < 2)
    ∧ (∀ z : ZoneId, curveGood (m.zones.get z).curve = true)
    ∧ (∀ i : SensorId, m.sensorMap.get i < 4 ∨ m.sensorMap.get i = 255)
    ∧ (∀ i : SupplyId, (m.supplies.get i).installed < 2)
    ∧ m.reserve < 2 ∧ m.mode < 2 ∧ m.insertion < 2 ∧ m.restart < 2 ∧ m.expiry < 2 ∧ m.action < 2
    ∧ (m.preferred = 1 ∨ m.preferred = 2) := by
  simp only [Image.good, Bool.and_eq_true, all_toList_iff, yesNo_twoCodes.isSome_iff, ReservePolicy.twoCodes.isSome_iff,
    Mode.twoCodes.isSome_iff, InsertionPolicy.twoCodes.isSome_iff, RestartPolicy.twoCodes.isSome_iff,
    ExpiryPolicy.twoCodes.isSome_iff, ButtonAction.twoCodes.isSome_iff, portOfCode_isSome, mapEntryOfCode_isSome, and_assoc]

theorem curveGood_iff (ps : List (Int × Nat)) : curveGood ps = true ↔ 2 ≤ ps.length ∧ ps.length ≤ 6
    ∧ (clampCurve ps).Pairwise fun q r => q.1 < r.1 := by
  rw [curveGood, Bool.and_eq_true, decide_eq_true_eq, ascending_iff, and_assoc]

theorem Profile.clamped_eq (x : Profile) : x.clamped
    = { surge := min 2000 x.surge, surgeTime := max 1 (min 300 x.surgeTime), run := min x.run (min 2000 x.surge)
        boost := min 30 x.boost, allowance := min 3 x.allowance, stopTime := min 300 x.stopTime } := by
  simp only [Profile.clamped, clamp, Nat.zero_max, Nat.min_comm x.run]

theorem Profile.clamped_of_inRange {x : Profile} (h : x.InRange) : x.clamped = x := by
  obtain ⟨hsurge, hlow, hhigh, hrun, hboost, hallow, hstop⟩ := h
  rw [Profile.clamped_eq, Nat.min_eq_right hsurge, Nat.min_eq_right hhigh, Nat.max_eq_right hlow, Nat.min_eq_left hrun,
    Nat.min_eq_right hboost, Nat.min_eq_right hallow, Nat.min_eq_right hstop]

theorem clamp_of_between {lo hi n : Nat} (h : lo ≤ n) (h' : n ≤ hi) : clamp lo hi n = n := by
  rw [clamp, Nat.min_eq_right h', Nat.max_eq_right h]

theorem clampInt_of_between {lo hi n : Int} (h : lo ≤ n) (h' : n ≤ hi) : clampInt lo hi n = n := by
  rw [clampInt, min_eq_right h', max_eq_right h]

theorem clampCurve_of_inRange {ps : List (Int × Nat)} (h : CurveInRange ps) : clampCurve ps = ps := by
  obtain ⟨-, -, -, hrange⟩ := h
  unfold clampCurve
  refine (List.map_congr_left fun q hq => ?_).trans (List.map_id ps)
  obtain ⟨hlow, hhigh, hduty⟩ := hrange q hq
  rw [clampInt_of_between hlow hhigh, Nat.min_eq_left hduty]
  rfl

theorem ZoneSettings.reconciled_of_inRange {c : ZoneSettings} (h : c.InRange) : c.reconciled = c := by
  obtain ⟨hfloor, hceil, hfail, hhyst, hup, hup', hdown, hdown', hhold, hcrit, hcrit', hcount, hdraw, hstall, hcurve⟩ := h
  have hh : clampInt 0 125 c.hold = c.hold := clampInt_of_between hhold (hcrit.trans hcrit')
  have hc : clampInt 0 125 c.critical = c.critical := clampInt_of_between (hhold.trans hcrit) hcrit'
  have hf : clamp 0 100 c.floor = c.floor := clamp_of_between (Nat.zero_le _) (hfloor.trans hceil)
  rw [ZoneSettings.reconciled, hh, hc, hf, clamp_of_between (Nat.zero_le _) hceil, max_eq_left hfloor, max_eq_right hcrit,
    clamp_of_between (Nat.zero_le _) hfail, clamp_of_between (Nat.zero_le _) hhyst, clamp_of_between hup hup',
    clamp_of_between hdown hdown', clamp_of_between (Nat.zero_le _) hcount, clamp_of_between (Nat.zero_le _) hdraw,
    clamp_of_between (Nat.zero_le _) hstall, clampCurve_of_inRange hcurve]

theorem storedWindow_of_inRange {n : Nat} (h : WindowInRange n) : storedWindow n = n := by
  unfold storedWindow
  rcases h with rfl | ⟨hlow, hhigh⟩
  · rfl
  · rw [if_neg (by omega), clamp_of_between hlow hhigh]

/-- The image of settings in range holds only known values and good curves (R164). -/
theorem image_good_of_inRange {c : Settings} (h : c.InRange) : c.image.good = true := by
  have hflag : ∀ b : Bool, boolNat b < 2 := by decide
  obtain ⟨-, hzones, -⟩ := h
  refine (image_good_iff _).mpr ⟨fun b => ?_, fun z => ?_, fun i => ?_, fun i => ?_, ?_, ?_, ?_, ?_, ?_, ?_, ?_⟩
  · have hget : c.image.bays.get b = _ := get_vmap _ c.bays b
    rw [hget]
    exact ⟨hflag _, hflag _⟩
  · obtain ⟨hlow, hhigh, hasc, -⟩ := (hzones z).curve
    refine (curveGood_iff _).mpr ⟨hlow, hhigh, ?_⟩
    exact (clampCurve_of_inRange (hzones z).curve).symm ▸ hasc
  · have hget : c.image.sensorMap.get i = _ := get_vmap _ c.sensorMap i
    rw [hget]
    cases c.sensorMap.get i with
    | none => exact .inr rfl
    | some z => exact .inl z.isLt
  · have hget : c.image.supplies.get i = _ := get_vmap _ c.supplies i
    rw [hget]
    exact hflag _
  · show c.budget.reserve.code < 2
    cases c.budget.reserve <;> decide
  · show c.scheduler.mode.code < 2
    cases c.scheduler.mode <;> decide
  · show c.scheduler.insertion.code < 2
    cases c.scheduler.insertion <;> decide
  · show c.scheduler.restart.code < 2
    cases c.scheduler.restart <;> decide
  · show c.removal.expiry.code < 2
    cases c.removal.expiry <;> decide
  · show c.removal.action.code < 2
    cases c.removal.action <;> decide
  · show portCode (some c.ports.preferred) = 1 ∨ portCode (some c.ports.preferred) = 2
    cases c.ports.preferred <;> decide

theorem bayImage_settings (x : BaySettings) : (⟨zoneOf x.zone.val, levelOf x.level.val,
    (yesNoOfCode (boolNat x.sheddable)).getD false, (yesNoOfCode (boolNat x.buttonEnabled)).getD false⟩ : BaySettings) = x := by
  have hflag : ∀ b : Bool, (yesNoOfCode (boolNat b)).getD false = b := by decide
  have hzone : zoneOf x.zone.val = x.zone := Fin.ext (Nat.min_eq_left (Nat.le_of_lt_succ x.zone.isLt))
  have hlevel : levelOf x.level.val = x.level := Fin.ext (Nat.min_eq_left (Nat.le_of_lt_succ x.level.isLt))
  rw [hflag, hflag, hzone, hlevel]

theorem mapEntry_settings (e : Option ZoneId) : (mapEntryOfCode (mapEntryCode e)).getD none = e := by
  cases e with
  | none => rfl
  | some z =>
    have h : (mapEntryCode (some z)) < 4 := z.isLt
    rw [mapEntryOfCode, dif_pos h]
    rfl

theorem settings_eq {c d : Settings} (hprofiles : c.profiles = d.profiles) (hbays : c.bays = d.bays)
    (hzones : c.zones = d.zones) (hmap : c.sensorMap = d.sensorMap) (hstale : c.staleness = d.staleness)
    (hsupplies : c.supplies = d.supplies) (hbudget : c.budget = d.budget) (hsched : c.scheduler = d.scheduler)
    (hremoval : c.removal = d.removal) (hports : c.ports = d.ports) : c = d := by
  obtain ⟨⟩ := c
  obtain ⟨⟩ := d
  simp_all

/-- Settings in range are what their own image gives (R164, R168). -/
theorem image_settings_of_inRange {c : Settings} (h : c.InRange) : c.image.settings = c := by
  obtain ⟨hprofiles, hzones, hlow, hhigh, hsupplies, hbudget, hsched, hwindow, hslow, hshigh⟩ := h
  obtain ⟨hdlow, hdhigh, hbase, hshed⟩ := hbudget
  obtain ⟨hclow, hchigh, hgap, hblow, hbhigh, hstlow, hsthigh, hbklow, hbkhigh⟩ := hsched
  have hp : c.image.settings.profiles = c.profiles :=
    vector_eq_of_get fun i => (get_vmap ..).trans (Profile.clamped_of_inRange (hprofiles i))
  have hb : c.image.settings.bays = c.bays := vector_eq_of_get fun b => by
    have hget : c.image.bays.get b = _ := get_vmap _ c.bays b
    refine (get_vmap ..).trans ?_
    rw [hget]
    exact bayImage_settings (c.bays.get b)
  have hz : c.image.settings.zones = c.zones :=
    vector_eq_of_get fun z => (get_vmap ..).trans (ZoneSettings.reconciled_of_inRange (hzones z))
  have hm : c.image.settings.sensorMap = c.sensorMap := vector_eq_of_get fun i => by
    have hget : c.image.sensorMap.get i = _ := get_vmap _ c.sensorMap i
    refine (get_vmap ..).trans ?_
    rw [hget]
    exact mapEntry_settings (c.sensorMap.get i)
  have hs : c.image.settings.supplies = c.supplies := vector_eq_of_get fun i => by
    have hflag : ∀ b : Bool, (yesNoOfCode (boolNat b)).getD false = b := by decide
    have hget : c.image.supplies.get i = _ := get_vmap _ c.supplies i
    refine (get_vmap ..).trans ?_
    rw [hget]
    dsimp only
    rw [hflag, clamp_of_between (Nat.zero_le _) (hsupplies i)]
  have hstale : c.image.settings.staleness = c.staleness := clamp_of_between hlow hhigh
  have hbud : c.image.settings.budget = c.budget := by
    have hcode : (ReservePolicy.ofCode c.budget.reserve.code).getD .one = c.budget.reserve := by
      cases c.budget.reserve <;> rfl
    show ({ reserve := (ReservePolicy.ofCode c.budget.reserve.code).getD .one, derate := clamp 50 100 c.budget.derate,
            base := clamp 0 20000 c.budget.base, shedDelay := clamp 0 60 c.budget.shedDelay } : BudgetSettings) = _
    rw [hcode, clamp_of_between hdlow hdhigh, clamp_of_between (Nat.zero_le _) hbase,
      clamp_of_between (Nat.zero_le _) hshed]
  have hsch : c.image.settings.scheduler = c.scheduler := by
    have hmode : (Mode.ofCode c.scheduler.mode.code).getD .strict = c.scheduler.mode := by
      cases c.scheduler.mode <;> rfl
    have hinsertion : (InsertionPolicy.ofCode c.scheduler.insertion.code).getD .manual = c.scheduler.insertion := by
      cases c.scheduler.insertion <;> rfl
    have hrestart : (RestartPolicy.ofCode c.scheduler.restart.code).getD .hold = c.scheduler.restart := by
      cases c.scheduler.restart <;> rfl
    show ({ mode := (Mode.ofCode c.scheduler.mode.code).getD .strict, startCap := clamp 1 16 c.scheduler.startCap,
            gap := clamp 0 100 c.scheduler.gap, bypassLimit := clamp 1 32 c.scheduler.bypassLimit,
            settle := clamp 2 50 c.scheduler.settle, backoff := clamp 5 100 c.scheduler.backoff,
            insertion := (InsertionPolicy.ofCode c.scheduler.insertion.code).getD .manual,
            restart := (RestartPolicy.ofCode c.scheduler.restart.code).getD .hold } : SchedulerSettings) = _
    rw [hmode, hinsertion, hrestart, clamp_of_between hclow hchigh, clamp_of_between (Nat.zero_le _) hgap,
      clamp_of_between hblow hbhigh, clamp_of_between hstlow hsthigh, clamp_of_between hbklow hbkhigh]
  have hrem : c.image.settings.removal = c.removal := by
    have hexpiry : (ExpiryPolicy.ofCode c.removal.expiry.code).getD .remainOff = c.removal.expiry := by
      cases c.removal.expiry <;> rfl
    have haction : (ButtonAction.ofCode c.removal.action.code).getD .notify = c.removal.action := by
      cases c.removal.action <;> rfl
    show ({ window := storedWindow c.removal.window,
            expiry := (ExpiryPolicy.ofCode c.removal.expiry.code).getD .remainOff,
            action := (ButtonAction.ofCode c.removal.action.code).getD .notify } : RemovalSettings) = _
    rw [hexpiry, haction, storedWindow_of_inRange hwindow]
  have hports : c.image.settings.ports = c.ports := by
    have hpreferred : (portOfCode (portCode (some c.ports.preferred))).getD .a = c.ports.preferred := by
      cases c.ports.preferred <;> rfl
    show ({ preferred := (portOfCode (portCode (some c.ports.preferred))).getD .a,
            silenceLimit := clamp 2 60 c.ports.silenceLimit } : PortSettings) = _
    rw [hpreferred, clamp_of_between hslow hshigh]
  exact settings_eq hp hb hz hm hstale hs hbud hsch hrem hports

/-! ### Saving -/

theorem saveAct_saving {s : State} (h : s.store.isSaving = true) : saveAct () s = refuse .busy s := if_pos h

theorem saveEnd_success {s : State} {was : Bool} {snap : Settings} (h : s.store = .saving was snap) :
    saveEnd .success s = post .enclosure
      { s with store := .ready, storeMs := 0, saveResult := .ok, memory := some snap.image } := by
  rw [saveEnd, h]

theorem saveEnd_failure {s : State} {was : Bool} {snap : Settings} (h : s.store = .saving was snap) (left : MemoryLeft) :
    saveEnd (.failure left) s = post .enclosure
      { s with store := if was then .ready else .defaults, storeMs := 0, saveResult := .failed
               memory := memoryLeft left snap s.memory } := by
  rw [saveEnd, h]

theorem saveEnd_idle {s : State} (h : ∀ f x, s.store ≠ .saving f x) (o : SaveOutcome) : saveEnd o s = s := by
  unfold saveEnd
  split
  · next hs => exact absurd hs (h _ _)
  · rfl

/-- Settles O49: saving by the settings state it finds; the image by its parts. -/
theorem savedSettings : Obligations.SavedSettings := by
  refine ⟨fun p tag left snap was s => ⟨fun h hidle => ?_, fun h hsaving => ?_, fun hrun hsaving => ⟨?_, fun c hc => ?_⟩,
    fun hrun hidle => ⟨fun o => ?_, ?_⟩⟩, fun c h => ⟨image_good_of_inRange h, image_settings_of_inRange h⟩, fun m => ?_⟩
  · have hno : ¬ (hear p s).store.isSaving = true := fun hs => by
      obtain ⟨f, x, hs⟩ := (isSaving_iff _).mp hs
      exact hidle f x hs
    refine answers_commanding h rfl rfl ((if_neg hno).trans ?_)
    rw [PortSettings.block, hear_settings, hear_store]
    cases s.settings.ports.preferred <;> rfl
  · exact answers_commanding h rfl rfl (saveAct_saving ((isSaving_iff _).mpr ⟨_, _, hsaving⟩))
  · exact exec_event rfl hrun (saveEnd_success hsaving)
  · have hend := saveEnd_failure hsaving left
    simp only [List.mem_cons, List.not_mem_nil, or_false] at hc
    rcases hc with rfl | rfl
    · exact exec_event rfl hrun (hend.trans (by cases left <;> rfl))
    · exact exec_event rfl hrun (hend.trans (by cases left <;> rfl))
  · exact exec_event rfl hrun (saveEnd_idle hidle o)
  · exact exec_event rfl hrun (saveEnd_idle hidle _)
  · refine ⟨?_, fun hgood => ?_⟩
    · rw [image_good_iff]
      have hcurve : ∀ z : ZoneId, curveGood (m.zones.get z).curve = true ↔ _ := fun z => curveGood_iff _
      simp only [hcurve]
      rfl
    · obtain ⟨hbays, -, hmap, hsupplies, hreserve, hmode, hinsertion, hrestart, hexpiry, haction, hpreferred⟩ :=
        (image_good_iff m).mp hgood
      refine ⟨fun i => ?_, fun b => ?_, fun z => ?_, fun i z => ?_, rfl, fun i => ?_, ?_, ?_, ?_, ?_⟩
      · exact (get_vmap ..).trans (Profile.clamped_eq _)
      · refine (get_vmap ..).trans ?_
        rw [yesNo_getD (hbays b).1, yesNo_getD (hbays b).2]
        rfl
      · refine (get_vmap ..).trans ?_
        simp only [ZoneSettings.reconciled, clamp, clampInt, Nat.zero_max, max_comm (min 100 (m.zones.get z).floor)]
        rfl
      · have hget : m.settings.sensorMap.get i = (mapEntryOfCode (m.sensorMap.get i)).getD none := get_vmap ..
        rw [hget]
        exact mapEntryOfCode_getD (hmap i) z
      · refine (get_vmap ..).trans ?_
        rw [yesNo_getD (hsupplies i), clamp, Nat.zero_max]
      · show (⟨_, _, _, _⟩ : BudgetSettings) = _
        rw [ReservePolicy.twoCodes.getD_eq hreserve, clamp, clamp, clamp, Nat.zero_max, Nat.zero_max]
      · show (⟨_, _, _, _, _, _, _, _⟩ : SchedulerSettings) = _
        rw [Mode.twoCodes.getD_eq hmode, InsertionPolicy.twoCodes.getD_eq hinsertion,
          RestartPolicy.twoCodes.getD_eq hrestart, clamp, clamp, clamp, clamp, clamp, Nat.zero_max]
      · show (⟨_, _, _⟩ : RemovalSettings) = _
        rw [ExpiryPolicy.twoCodes.getD_eq hexpiry, ButtonAction.twoCodes.getD_eq haction, storedWindow, clamp]
      · show (⟨_, _⟩ : PortSettings) = _
        rw [portOfCode_getD hpreferred, clamp]

end Sys2Proof.Machine

/-!
PROOF. What a load finds and takes up (10.1, 10.2): the read, the re-sort of the queue (R31), the zones (R112, R113),
the fresh surge windows (R42) and the collapse it may leave (R67).
-/

namespace Sys2Proof.Machine

/-! ### The re-sort (R31) -/

/-- An entry joins the end of its level's entries; those of the other levels stay as they are. -/
theorem filter_insertEnd {q : List Entry} (h : QueueSorted q) (e : Entry) (l : Fin 8) :
    (insertEnd e q).filter (fun x => x.level = l)
      = q.filter (fun x => x.level = l) ++ if e.level = l then [e] else [] := by
  induction q with
  | nil => by_cases he : e.level = l <;> simp [insertEnd, he]
  | cons x q ih =>
    obtain ⟨hx, hq⟩ := List.pairwise_cons.mp h
    unfold insertEnd
    split
    · next hlt =>
      by_cases he : e.level = l
      · have hnone : (x :: q).filter (fun y => decide (y.level = l)) = [] := by
          refine List.filter_eq_nil_iff.mpr fun y hy => ?_
          have hle : x.level ≤ y.level := (List.mem_cons.mp hy).elim (fun h => h ▸ le_rfl) (hx y)
          have hne : y.level ≠ l := fun h => absurd (he ▸ h ▸ hle) (not_le.mpr hlt)
          simp [hne]
        rw [List.filter_cons, hnone, if_pos he, if_pos (decide_eq_true he), List.nil_append]
      · rw [List.filter_cons, if_neg he, if_neg (by simpa using he), List.append_nil]
    · rw [List.filter_cons, List.filter_cons, ih hq]
      split
      · rw [List.cons_append]
      · rfl

theorem filter_foldl_insertEnd (l : Fin 8) : ∀ (q acc : List Entry), QueueSorted acc →
    (q.foldl (fun acc e => insertEnd e acc) acc).filter (fun x => x.level = l)
      = acc.filter (fun x => x.level = l) ++ q.filter (fun x => x.level = l)
  | [], acc, _ => by simp
  | e :: q, acc, h => by
    rw [List.foldl_cons, filter_foldl_insertEnd l q _ (insertEnd_sorted h), filter_insertEnd h, List.filter_cons,
      List.append_assoc]
    by_cases he : e.level = l <;> simp [he]

/-- The re-sort keeps the order of the entries of one level. -/
theorem filter_sortQueue (q : List Entry) (l : Fin 8) :
    (sortQueue q).filter (fun x => x.level = l) = q.filter fun x => x.level = l :=
  (filter_foldl_insertEnd l q [] .nil).trans (List.nil_append _)

theorem relevel_eq (s : State) : s.relevel = fun e =>
    if (s.bayCfg e.bay).level = e.level then e else { e with level := (s.bayCfg e.bay).level, bypass := 0 } :=
  funext fun _ => if_congr eq_comm rfl rfl

/-! ### The read (R165) -/

/-- The settings a load reads, if the memory answers and holds a good image. -/
def loadRead (answer : LoadAnswer) (m : Option Image) : Option Settings :=
  if answer = .noAnswer then none else readImage (memoryFound answer m)

theorem takeLoad_memory (answer : LoadAnswer) (s : State) :
    (takeLoad answer s).memory = memoryFound answer s.memory := by
  unfold takeLoad
  dsimp only
  split <;> rfl

theorem takeLoad_read {answer : LoadAnswer} {s : State} {c : Settings} (h : loadRead answer s.memory = some c) :
    (takeLoad answer s).store = .ready ∧ (takeLoad answer s).settings = c := by
  rw [takeLoad]
  unfold loadRead at h
  rw [h]
  exact ⟨rfl, rfl⟩

theorem takeLoad_unread {answer : LoadAnswer} {s : State} (h : loadRead answer s.memory = none) :
    (takeLoad answer s).store = .defaults ∧ (takeLoad answer s).settings = Settings.factory := by
  rw [takeLoad]
  unfold loadRead at h
  rw [h]
  exact ⟨rfl, rfl⟩

theorem takeLoad_loading (answer : LoadAnswer) (s : State) : (takeLoad answer s).loading = false := by
  rw [State.loading]
  cases h : loadRead answer s.memory with
  | none => rw [(takeLoad_unread h).1]; rfl
  | some c => rw [(takeLoad_read h).1]; rfl

/-! ### The zones (R112, R113) -/

/-- A zone taken up has its ceiling and its reservation duty from the settings in force. -/
theorem takeZones_zone (s : State) (z : ZoneId) :
    ((takeZones s).zone z).ceiling = (if (s.zone z).overheat then 100 else (s.zoneCfg z).ceiling)
    ∧ ((takeZones s).zone z).reservation = max ((takeZones s).zone z).ceiling (s.zone z).applied := by
  have hfold : ∀ (zs : List ZoneId) (t : State), (∀ y, t.zoneCfg y = s.zoneCfg y
        ∧ (t.zone y).overheat = (s.zone y).overheat ∧ (t.zone y).applied = (s.zone y).applied) →
      (z ∈ zs ∨ (t.zone z).ceiling = (if (s.zone z).overheat then 100 else (s.zoneCfg z).ceiling)
        ∧ (t.zone z).reservation = max (t.zone z).ceiling (s.zone z).applied) →
      ((zs.foldl (fun t z => applyZone z t) t).zone z).ceiling = (if (s.zone z).overheat then 100 else (s.zoneCfg z).ceiling)
      ∧ ((zs.foldl (fun t z => applyZone z t) t).zone z).reservation
        = max ((zs.foldl (fun t z => applyZone z t) t).zone z).ceiling (s.zone z).applied := by
    intro zs
    induction zs with
    | nil => exact fun t _ hz => hz.resolve_left List.not_mem_nil
    | cons y zs ih =>
      intro t ht hz
      rw [List.foldl_cons]
      have hzone := fun x => applyZone_zone y x t
      have hcfg := fun x => applyZone_zoneCfg y x t
      generalize applyZone y t = u at hzone hcfg
      refine ih u (fun x => ?_) ?_
      · obtain ⟨h1, h2, h3⟩ := ht x
        refine ⟨(hcfg x).trans h1, ?_⟩
        rw [hzone]
        split
        · next hx => rw [← hx]; exact ⟨h2, h3⟩
        · exact ⟨h2, h3⟩
      · by_cases hzy : z = y
        · obtain ⟨h1, h2, h3⟩ := ht y
          rw [hzone, if_pos hzy, h1, hzy, ← h2, ← h3]
          exact .inr ⟨rfl, rfl⟩
        · rw [hzone, if_neg hzy]
          exact hz.imp_left fun h => (List.mem_cons.mp h).resolve_left hzy
  exact hfold _ s (fun _ => ⟨rfl, rfl, rfl⟩) (.inl (List.mem_finRange z))

end Sys2Proof.Machine

/-!
PROOF. The state in which a load has been taken up, before the settles that waited for it: what every block took, and
the collapse a reload leaves (R42, R66, R67, R166).
-/

namespace Sys2Proof.Machine

/-! ### What the blocks take up -/

theorem takeLoad_post (answer : LoadAnswer) (o : Obj) (s : State) :
    takeLoad answer (post o s) = post o (takeLoad answer s) := by
  cases h : loadRead answer s.memory with
  | none =>
    unfold loadRead at h
    rw [takeLoad, takeLoad, post_memory, h]
    rfl
  | some c =>
    unfold loadRead at h
    rw [takeLoad, takeLoad, post_memory, h]
    rfl

/-- The completion of a load posts the enclosure. -/
theorem takeSettings_posts (answer : LoadAnswer) (s : State) :
    (takeSettings answer s).Both (PortState.Holds .enclosure) := by
  have hbays : takeBaySettings (post .enclosure s) = takeBaySettings s := rfl
  have hsupplies : postSupplies (post .enclosure s) = postSupplies s := rfl
  have hsame : takeSettings answer (post .enclosure s) = takeSettings answer s := by
    rw [takeSettings_eq, takeSettings_eq, hbays, hsupplies, takeLoad_post,
      post_standing (s := post .enclosure (takeLoad answer s)) (post_both ..)]
  rw [← hsame]
  exact both_takeSettings (post_holds .enclosure) answer (post_both ..)

/-- A bay after a load: attention held clear where its button is not enabled, a fresh full window in STARTING. -/
theorem takeSettings_window (answer : LoadAnswer) (s : State) (c : BayId) :
    (takeSettings answer s).bay c = { s.bay c with
      attention := (s.bay c).attention && ((takeSettings answer s).bayCfg c).buttonEnabled
      timer := if (s.bay c).state = .starting
        then .surge (((takeSettings answer s).settings.profiles.get (s.bay c).profile).surgeTime * 100)
        else (s.bay c).timer } := by
  obtain ⟨bays, zones, fans, ps, p, h, -, hbays, -⟩ := takeSettings_frame answer s
  rw [h]
  generalize takeLoad answer s = l at *
  show (Vector.map _ bays).get c = _
  rw [get_vmap, hbays]
  show (if (s.bay c).state = .starting then _ else _) = _
  split <;> rfl

theorem takeSettings_zones (answer : LoadAnswer) (s : State) (z : ZoneId) :
    ((takeSettings answer s).zone z).ceiling
      = (if (s.zone z).overheat then 100 else ((takeSettings answer s).zoneCfg z).ceiling)
    ∧ ((takeSettings answer s).zone z).reservation
      = max ((takeSettings answer s).zone z).ceiling (s.zone z).applied := by
  obtain ⟨bays, zones, fans, ps, p, h, -, -, bays', ps', hzones, -⟩ := takeSettings_frame answer s
  have htake := takeZones_zone { takeLoad answer s with bays := bays', ports := ps' } z
  have hload : ∀ y, ({ takeLoad answer s with bays := bays', ports := ps' } : State).zone y = s.zone y := fun y => by
    rw [takeLoad_only]
    rfl
  have hnow : ∀ y, (takeSettings answer s).zone y = (takeZones { takeLoad answer s with bays := bays', ports := ps' }).zone y :=
    fun y => by
      rw [h, State.zone, State.zone, ← hzones]
      rfl
  have hcfg : (takeSettings answer s).zoneCfg z
      = ({ takeLoad answer s with bays := bays', ports := ps' } : State).zoneCfg z := by
    rw [State.zoneCfg, takeSettings_settings, State.zoneCfg]
  rw [hload] at htake
  rw [hnow, hcfg]
  exact htake

/-- What a load changes of the state beside bays, queue, zones, fans, sensors and change lists. -/
theorem takeSettings_only (answer : LoadAnswer) (s : State) : takeSettings answer s = { s with
    store := (takeLoad answer s).store, storeMs := 0, memory := (takeLoad answer s).memory
    settings := (takeLoad answer s).settings, controlling := (takeLoad answer s).settings.ports.preferred
    bays := (takeSettings answer s).bays, queue := (takeSettings answer s).queue
    zones := (takeSettings answer s).zones, fans := (takeSettings answer s).fans
    sensors := (takeSettings answer s).sensors, ports := (takeSettings answer s).ports } := by
  obtain ⟨bays, zones, fans, ps, p, h, hp, -⟩ := takeSettings_frame answer s
  have hload := takeLoad_only answer s
  rw [h]
  generalize takeLoad answer s = l at *
  rw [hload, hp]
  rfl

theorem takeSettings_queueOk (answer : LoadAnswer) {s : State} (h : s.QueueOk) : (takeSettings answer s).QueueOk :=
  queueOk_of_resort h (takeSettings_queue answer s) fun c => by
    rw [takeSettings_window]
    exact ⟨rfl, rfl⟩

/-! ### The collapse of a reload (R67) -/

theorem stopAll_holds {o : Obj} {s : State} (h : s.Both (PortState.Holds o)) : (stopAll s).Both (PortState.Holds o) := by
  rw [stopAll_eq]
  exact foldl_keeps (g := stopOne) (P := State.Both (PortState.Holds o)) (fun _ b ht => stopOne_holds ht b) allBays h

theorem goodSupplies_eq_nil (s : State) : s.goodSupplies = [] ↔ ¬ s.HasGood := by
  rw [← goodSupplies_isEmpty, List.isEmpty_iff]

/-- A reload stops the powered bays where it leaves no good supply, and the collapse flag follows the supplies. -/
def State.Reloaded (w t : State) : Prop := ∃ bays pl ps,
  t = { w with bays := bays, plan := pl, ports := ps, collapse := decide (w.goodSupplies = []) }
  ∧ ∀ b, bays.get b = if w.goodSupplies = [] ∧ (w.bay b).state ∈ [BayState.starting, .ready]
      then (w.bay b).collapsed (w.profile b).stopTime else w.bay b

theorem reloadCollapse_stops {w : State} (h : w.goodSupplies = []) : w.Reloaded (reloadCollapse w) := by
  obtain ⟨bays, pl, ps, hstop⟩ := stopAll_stopsFrom w
  have hbays : ∀ b, bays.get b = if w.goodSupplies = [] ∧ (w.bay b).state ∈ [BayState.starting, .ready]
      then (w.bay b).collapsed (w.profile b).stopTime else w.bay b := fun b => by
    have hbay := stopAll_bay w b
    rw [hstop] at hbay
    exact hbay.trans (if_congr ⟨fun hb => ⟨h, hb⟩, fun hb => hb.2⟩ rfl rfl)
  have hflag : decide (w.goodSupplies = []) = true := decide_eq_true h
  have hempty : w.goodSupplies.isEmpty = true := List.isEmpty_iff.mpr h
  unfold State.Reloaded
  rw [reloadCollapse, hempty, Bool.true_and]
  cases hc : w.collapse with
  | true =>
    refine ⟨bays, pl, ps, ?_, hbays⟩
    rw [hflag, if_pos rfl, hstop, ← hc]
  | false =>
    refine ⟨bays, pl, (post .enclosure { stopAll w with collapse := true }).ports, ?_, hbays⟩
    rw [if_neg Bool.false_ne_true, judgeCollapse_falls ((goodSupplies_eq_nil w).mp h) hc, hflag, hstop]
    rfl

theorem reloadCollapse_keeps {w : State} (h : w.goodSupplies ≠ []) : w.Reloaded (reloadCollapse w) := by
  have hbays : ∀ b, w.bays.get b = if w.goodSupplies = [] ∧ (w.bay b).state ∈ [BayState.starting, .ready]
      then (w.bay b).collapsed (w.profile b).stopTime else w.bay b := fun b => by
    rw [if_neg fun hb => h hb.1]
    rfl
  have hflag : decide (w.goodSupplies = []) = false := decide_eq_false h
  have hempty : ¬ (w.goodSupplies.isEmpty && w.collapse) = true := fun he =>
    h (List.isEmpty_iff.mp ((Bool.and_eq_true _ _).mp he).1)
  have hgood : w.HasGood := by
    by_contra hno
    exact h ((goodSupplies_eq_nil w).mpr hno)
  unfold State.Reloaded
  rw [reloadCollapse, if_neg hempty, judgeCollapse_good hgood, hflag]
  cases hc : w.collapse with
  | true => exact ⟨w.bays, w.plan, (post .enclosure { w with collapse := false }).ports, rfl, hbays⟩
  | false =>
    refine ⟨w.bays, w.plan, w.ports, ?_, hbays⟩
    rw [if_neg Bool.false_ne_true, ← hc]

theorem reloadCollapse_reloaded (w : State) : w.Reloaded (reloadCollapse w) := by
  by_cases h : w.goodSupplies = []
  · exact reloadCollapse_stops h
  · exact reloadCollapse_keeps h

theorem reloadCollapse_posts {w : State} (h : w.Both (PortState.Holds .enclosure)) :
    (reloadCollapse w).Both (PortState.Holds .enclosure) := by
  have hjudge : (judgeCollapse w).Both (PortState.Holds .enclosure) := by
    by_cases hgood : w.HasGood
    · rw [judgeCollapse_good hgood]
      split
      · exact post_both ..
      · exact h
    · cases hc : w.collapse with
      | true => rwa [judgeCollapse_standing hgood hc]
      | false =>
        rw [judgeCollapse_falls hgood hc]
        exact post_both ..
  unfold reloadCollapse
  split
  · exact stopAll_holds h
  · exact hjudge

/-! ### The state before the settles -/

/-- The state of a load's completion after the Ledger's one recompute (R166). -/
def State.loaded (s : State) (answer : LoadAnswer) : State := recompute (reloadCollapse (takeSettings answer s))

/-- A recompute of a Ledger that is up to date changes nothing. -/
theorem recompute_of_current {t : State} (htotals : t.computeTotals = t.totals)
    (hover : decide (t.totals.allowance < t.totals.committed) = t.overBudget) (hlost : t.gross.2 = t.redundancyLost)
    (hshed : shedTimer t.overBudget t.settings.budget.shedDelay t.shed = t.shed) : recompute t = t := by
  rw [recompute]
  rw [htotals, hover, hlost, hshed, bne_self_eq_false, bne_self_eq_false]
  rfl

theorem shedTimer_idem (total : Bool) (delay : Nat) (now : Option Nat) :
    shedTimer total delay (shedTimer total delay now) = shedTimer total delay now := by
  unfold shedTimer
  split
  · rfl
  · cases now <;> rfl

theorem recompute_idem (s : State) : recompute (recompute s) = recompute s := by
  refine recompute_of_current (t := recompute s) ?_ ?_ ?_ ?_
  · rw [recompute_totals, computeTotals_recompute]
  · rw [recompute_overBudget, recompute_totals]
  · rw [recompute_redundancyLost, gross_congr (recompute_settings s) (recompute_supplies s)]
  · rw [recompute_settings, recompute_shed, shedTimer_idem]

theorem goodSupplies_congr {s t : State} (hset : t.settings = s.settings) (hsup : t.supplies = s.supplies) :
    t.goodSupplies = s.goodSupplies := by
  have hgood : t.supplyGood = s.supplyGood := funext fun i => by rw [State.supplyGood, State.supplyGood, hset, hsup]
  rw [State.goodSupplies, State.goodSupplies, hgood]

/-- What the collapse and the recompute of a load leave of the settings taken up. -/
def State.Completed (w y : State) : Prop := ∃ bays pl ps totals total lost shed,
  y = { w with
    bays := bays, plan := pl, ports := ps, collapse := decide (w.goodSupplies = []), totals := totals
    overBudget := total, redundancyLost := lost, shed := shed }
  ∧ ∀ b, bays.get b = if w.goodSupplies = [] ∧ (w.bay b).state ∈ [BayState.starting, .ready]
      then (w.bay b).collapsed (w.profile b).stopTime else w.bay b

theorem recompute_completed {w x : State} (h : w.Reloaded x) : w.Completed (recompute x) := by
  obtain ⟨ps', hr⟩ := recompute_frame x
  obtain ⟨bays, pl, ps, hx, hbays⟩ := h
  rw [hr]
  generalize x.computeTotals = totals
  generalize x.gross = gross
  generalize shedTimer (decide (totals.allowance < totals.committed)) x.settings.budget.shedDelay x.shed = shed
  rw [hx]
  exact ⟨bays, pl, ps', totals, decide (totals.allowance < totals.committed), gross.2, shed, rfl, hbays⟩

theorem loaded_completed (s : State) (answer : LoadAnswer) : (takeSettings answer s).Completed (s.loaded answer) :=
  recompute_completed (reloadCollapse_reloaded _)

end Sys2Proof.Machine

/-!
PROOF. The end of a load's completion (R166): the settles that waited, each with the opportunity of its join, and the
last opportunity. They change SETTLING and QUEUED bays alone, and take entries of the re-sorted queue in its order.
-/

namespace Sys2Proof.Machine

theorem Completed.fields {w y : State} (h : w.Completed y) : y.settings = w.settings ∧ y.store = w.store
    ∧ y.memory = w.memory ∧ y.controlling = w.controlling ∧ y.gap = w.gap ∧ y.queue = w.queue ∧ y.zones = w.zones
    ∧ y.supplies = w.supplies ∧ y.collapse = decide (w.goodSupplies = [])
    ∧ ∀ b, y.bay b = if w.goodSupplies = [] ∧ (w.bay b).state ∈ [BayState.starting, .ready]
        then (w.bay b).collapsed (w.profile b).stopTime else w.bay b := by
  obtain ⟨bays, pl, ps, totals, total, lost, shed, hy, hbays⟩ := h
  rw [hy]
  exact ⟨rfl, rfl, rfl, rfl, rfl, rfl, rfl, rfl, rfl, hbays⟩

/-! ### The settles and admissions after a load -/

/-- The parts that no settle and no admission touches. -/
def State.parts (s : State) : Settings × SettingsState × Option Image × Port × Vector Zone 4 × Vector Supply 4 × Bool :=
  (s.settings, s.store, s.memory, s.controlling, s.zones, s.supplies, s.collapse)

/-- What settles and admissions have made of `y` at `u`. -/
structure State.SettledFrom (y u : State) : Prop where
  queue : u.QueueOk
  parts : u.parts = y.parts
  posted : u.Both (PortState.Holds .enclosure)
  others : ∀ b, (y.bay b).state ∉ [BayState.queued, .settling] → u.bay b = y.bay b
  queued : ∀ b, (y.bay b).state = .queued → (u.bay b).state ∈ [BayState.queued, .starting]
  order : ((u.queue.map (·.bay)).filter fun b => decide (b ∈ y.queue.map (·.bay))).Sublist (y.queue.map (·.bay))

theorem changeBay_parts (b : BayId) (f : Bay → Bay) (s : State) : (changeBay b f s).parts = s.parts := by
  obtain ⟨pl, ps, h⟩ := changeBay_frame b f s
  rw [h]
  rfl

theorem startBay_parts (b : BayId) (q : List Entry) (s : State) : (startBay b q s).parts = s.parts := by
  obtain ⟨gap, totals, total, lost, shed, ps, pl, h⟩ := startBay_frame b q s
  rw [h]
  rfl

theorem settledFrom_refl {y : State} (hq : y.QueueOk) (hp : y.Both (PortState.Holds .enclosure)) : y.SettledFrom y :=
  ⟨hq, rfl, hp, fun _ _ => rfl, fun b hb => by rw [hb]; decide, List.filter_sublist⟩

/-- What an admission leaves of the queue stands in it in the same order. -/
theorem candidate_sublist {s : State} {e : Entry} {r : List Entry} (h : s.candidate = some (e, r))
    (hnodup : (s.queue.map (·.bay)).Nodup) : (r.map (·.bay)).Sublist (s.queue.map (·.bay)) := by
  obtain ⟨before, after, hq, hr⟩ := candidate_leaves h hnodup
  have hbays : r.map (·.bay) = before.map (·.bay) ++ after.map (·.bay) := by
    rcases hr with rfl | rfl <;> simp [Function.comp_def]
  rw [hbays, hq, List.map_append, List.map_cons]
  exact (List.Sublist.refl _).append (List.sublist_cons_self _ _)

/-- What an admission takes and leaves. -/
theorem admitOne_takes {u v : State} (hq : u.QueueOk) (h : admitOne u = some v) : ∃ c : BayId,
    (u.bay c).state = .queued ∧ v.bay c = Bay.started (u.profile c).surgeTime (u.bay c) ∧ (∀ b, b ≠ c → v.bay b = u.bay b)
    ∧ v.parts = u.parts ∧ (v.queue.map (·.bay)).Sublist (u.queue.map (·.bay)) := by
  obtain ⟨e, r, -, hc, hmem, -, -, ht⟩ := admitOne_cases h
  have hqueued := hq.state_of_mem hmem
  obtain ⟨-, hnodup, -⟩ := hq
  have hsub := candidate_sublist hc hnodup
  rw [ht]
  exact ⟨e.bay, hqueued, startBay_bay_same .., fun b hb => startBay_bay_ne hb r u, startBay_parts ..,
    by rw [startBay_queue]; exact hsub⟩

theorem admitOne_posts {K : PortState → Prop} (hK : ∀ o x, K x → K (x.post o)) {u v : State} (h : u.Both K)
    (hv : admitOne u = some v) : v.Both K := by
  obtain ⟨e, r, -, -, -, -, -, ht⟩ := admitOne_cases hv
  rw [ht]
  exact both_startBay hK e.bay r h

theorem admitOne_settledFrom {y u v : State} (h : y.SettledFrom u) (hv : admitOne u = some v) : y.SettledFrom v := by
  obtain ⟨c, hqueued, hstarted, hothers, hparts, hsub⟩ := admitOne_takes h.queue hv
  refine ⟨admitOne_queueOk h.queue hv, hparts.trans h.parts, admitOne_posts (post_holds _) h.posted hv,
    fun b hb => ?_, fun b hb => ?_, (hsub.filter _).trans h.order⟩
  · have hne : b ≠ c := fun he => hb (by rw [← h.others b hb, he, hqueued]; decide)
    rw [hothers b hne, h.others b hb]
  · by_cases he : b = c
    · rw [he, hstarted]
      exact List.mem_cons_of_mem _ List.mem_cons_self
    · rw [hothers b he]
      exact h.queued b hb

theorem opportunity_settledFrom {y u : State} (h : y.SettledFrom u) : y.SettledFrom (opportunity u) :=
  opportunity_keeps (P := y.SettledFrom) (fun _ _ => admitOne_settledFrom) h

/-- A carrier is identified: its bay is OFF with code and profile as the contacts read (R6). -/
def State.identify (u : State) (c : BayId) (k : ProfileId) : State :=
  changeBay c (fun y => { y with
    state := .off, code := some k, profile := k, startMark := false, attempts := 0
    lastEvent := .inserted, timer := .idle }) u

/-- A bay joins the queue, before the opportunity of the join (R30). -/
def State.enqueue (u : State) (c : BayId) (o : Origin) : State :=
  changeBay c (fun y => { y with state := .queued, origin := some o, timer := .idle })
    { u with queue := insertEntry { bay := c, level := (u.bayCfg c).level, origin := o, bypass := 0 } u.queue }

/-- What identification, a join and admissions keep, a settle that is taken keeps. -/
theorem takeSettle_keeps {P : State → Prop} {c : BayId} {k : ProfileId} {u : State} (hl : u.loading = false)
    (identified : P (u.identify c k)) (joined : ∀ o, P ((u.identify c k).enqueue c o))
    (admitted : ∀ v w, P v → admitOne v = some w → P w) : P (takeSettle c k u) := by
  have hjoin : ∀ o, P (joinQueue c o id (u.identify c k)) := fun o => opportunity_keeps admitted (joined o)
  have hload : ¬ u.loading = true := by rw [hl]; decide
  rw [takeSettle, if_neg hload]
  unfold settleActions
  dsimp only
  split <;> split
  · exact hjoin _
  · exact identified
  · exact hjoin _
  · exact identified

section Settles

variable {y u : State} {c : BayId}

/-- A bay found SETTLING was SETTLING from the first. -/
theorem SettledFrom.settling (h : y.SettledFrom u) (hc : (u.bay c).state = .settling) : (y.bay c).state = .settling := by
  by_contra hne
  by_cases hq : (y.bay c).state = .queued
  · have := h.queued c hq
    rw [hc] at this
    exact absurd this (by decide)
  · rw [h.others c (by simp [hq, hne])] at hc
    exact hne hc

theorem identify_bay (u : State) (c : BayId) (k : ProfileId) (b : BayId) : (u.identify c k).bay b = if b = c then
      { u.bay c with
        state := .off, code := some k, profile := k, startMark := false, attempts := 0
        lastEvent := .inserted, timer := .idle } else u.bay b := changeBay_bay ..

theorem enqueue_bay (u : State) (c : BayId) (o : Origin) (b : BayId) : (u.enqueue c o).bay b
    = if b = c then { u.bay c with state := .queued, origin := some o, timer := .idle } else u.bay b := changeBay_bay ..

theorem identify_settledFrom (h : y.SettledFrom u) (hc : (u.bay c).state = .settling) (k : ProfileId) :
    y.SettledFrom (u.identify c k) := by
  have hy := SettledFrom.settling h hc
  have hqueue : (u.identify c k).queue = u.queue := changeBay_queue ..
  refine ⟨(chain_turn (wide := False) (ordered := True) (.identified k fun _ => hc)).keeps
      (fun _ _ => Move.queueOk trivial) h.queue, (changeBay_parts ..).trans h.parts,
    both_changeBay (post_holds _) _ _ h.posted, fun b hb => ?_, fun b hb => ?_, ?_⟩
  · have hne : b ≠ c := fun hbc => hb (by rw [hbc, hy]; decide)
    rw [identify_bay, if_neg hne, h.others b hb]
  · have hne : b ≠ c := fun hbc => by rw [hbc, hy] at hb; cases hb
    rw [identify_bay, if_neg hne]
    exact h.queued b hb
  · rw [hqueue]
    exact h.order

/-- An entry that a filter drops leaves what the filter gives as it is, wherever it joins. -/
theorem filter_insertEntry {e : Entry} {p : BayId → Bool} (he : p e.bay = false) (q : List Entry) :
    ((insertEntry e q).map (·.bay)).filter p = (q.map (·.bay)).filter p := by
  have hdrop : ∀ before after : List Entry,
      ((before ++ e :: after).map (·.bay)).filter p = ((before ++ after).map (·.bay)).filter p := fun before after => by
    simp [he]
  unfold insertEntry
  split
  · rw [insertFront_eq, hdrop, List.takeWhile_append_dropWhile]
  · rw [insertEnd_eq, hdrop, List.takeWhile_append_dropWhile]

theorem enqueue_settledFrom (hq : y.QueueOk) (h : y.SettledFrom u) (hc : (u.bay c).state = .off)
    (hy : (y.bay c).state = .settling) (o : Origin) : y.SettledFrom (u.enqueue c o) := by
  have hqueue : (u.enqueue c o).queue
      = insertEntry { bay := c, level := (u.bayCfg c).level, origin := o, bypass := 0 } u.queue := changeBay_queue ..
  have hnot : c ∉ y.queue.map (·.bay) := fun hm => by
    have := (hq.1 c).mpr hm
    rw [hy] at this
    cases this
  refine ⟨(Move.join (wide := False) (ordered := True) c o id (.off hc)).queueOk trivial h.queue,
    (changeBay_parts ..).trans h.parts, both_changeBay (post_holds _) _ _ h.posted, fun b hb => ?_, fun b hb => ?_, ?_⟩
  · have hne : b ≠ c := fun hbc => hb (by rw [hbc, hy]; decide)
    rw [enqueue_bay, if_neg hne, h.others b hb]
  · have hne : b ≠ c := fun hbc => by rw [hbc, hy] at hb; cases hb
    rw [enqueue_bay, if_neg hne]
    exact h.queued b hb
  · rw [hqueue, filter_insertEntry (decide_eq_false hnot)]
    exact h.order

/-! ### The bays whose settles waited -/

/-- An identified bay: its code and profile are what the contacts read, and it is OFF, or on its way to power. -/
def Bay.IdentifiedAs (k : ProfileId) (x : Bay) : Prop :=
  x.code = some k ∧ x.profile = k ∧ x.state ∈ [BayState.off, .queued, .starting]

theorem admitOne_identified {v : State} {k : ProfileId} {b : BayId} (hq : u.QueueOk) (hb : (u.bay b).IdentifiedAs k)
    (hv : admitOne u = some v) : (v.bay b).IdentifiedAs k := by
  obtain ⟨c, -, hstarted, hothers, -⟩ := admitOne_takes hq hv
  by_cases he : b = c
  · obtain ⟨hcode, hprofile, -⟩ := hb
    rw [he] at hcode hprofile ⊢
    rw [hstarted]
    exact ⟨hcode, hprofile, List.mem_cons_of_mem _ (List.mem_cons_of_mem _ List.mem_cons_self)⟩
  · rwa [hothers b he]

theorem admitOne_settling {v : State} {b : BayId} (hq : u.QueueOk) (hb : (u.bay b).state = .settling)
    (hv : admitOne u = some v) : v.bay b = u.bay b := by
  obtain ⟨c, hqueued, -, hothers, -⟩ := admitOne_takes hq hv
  exact hothers b fun he => by
    rw [← he, hb] at hqueued
    cases hqueued

theorem SettledFrom.loading (h : y.SettledFrom u) (hl : y.loading = false) : u.loading = false := by
  have hstore : u.store = y.store := congrArg (·.2.1) h.parts
  rw [State.loading, hstore]
  exact hl

variable (k : Vector ProfileId 60)

/-- One settle that waited, taken where its bay has it. -/
def settleWaiting (t : State) (c : BayId) : State :=
  if (t.bay c).state = .settling && decide ((t.bay c).timer = .settled) then takeSettle c (k.get c) t else t

theorem endSettles_eq (s : State) : endSettles k s = allBays.foldl (settleWaiting k) s := rfl

/-- The settle of one bay keeps the rest as it was, another SETTLING bay, and the bays identified already. -/
theorem settleWaiting_keeps (hq : y.QueueOk) (hl : y.loading = false) (h : y.SettledFrom u) (c : BayId) :
    y.SettledFrom (settleWaiting k u c)
    ∧ (∀ b, b ≠ c → (y.bay b).state = .settling → u.bay b = y.bay b → (settleWaiting k u c).bay b = y.bay b)
    ∧ (∀ b k', (u.bay b).IdentifiedAs k' → ((settleWaiting k u c).bay b).IdentifiedAs k') := by
  unfold settleWaiting
  split
  · next hc =>
    obtain ⟨hc, -⟩ := (Bool.and_eq_true _ _).mp hc
    have hc := of_decide_eq_true hc
    have hid := identify_settledFrom h hc (k.get c)
    have hoff : ((u.identify c (k.get c)).bay c).state = .off := by rw [identify_bay, if_pos rfl]
    have hjoin := fun o => enqueue_settledFrom hq hid hoff (SettledFrom.settling h hc) o
    have hother : ∀ b, b ≠ c → (u.identify c (k.get c)).bay b = u.bay b
        ∧ ∀ o, ((u.identify c (k.get c)).enqueue c o).bay b = u.bay b := fun b hb => by
      have hsame : (u.identify c (k.get c)).bay b = u.bay b := by rw [identify_bay, if_neg hb]
      exact ⟨hsame, fun o => by rw [enqueue_bay, if_neg hb, hsame]⟩
    have hload := SettledFrom.loading h hl
    refine ⟨takeSettle_keeps hload hid hjoin fun _ _ => admitOne_settledFrom, fun b hb hsettling hsame => ?_,
      fun b k' hk => ?_⟩
    · obtain ⟨h1, h2⟩ := hother b hb
      refine (takeSettle_keeps (P := fun v => y.SettledFrom v ∧ v.bay b = y.bay b) hload ⟨hid, h1.trans hsame⟩
        (fun o => ⟨hjoin o, (h2 o).trans hsame⟩) fun v w hv hw => ⟨admitOne_settledFrom hv.1 hw, ?_⟩).2
      rw [admitOne_settling hv.1.queue (by rw [hv.2]; exact hsettling) hw, hv.2]
    · have hb : b ≠ c := fun he => by
        obtain ⟨-, -, hstate⟩ := hk
        rw [he, hc] at hstate
        exact absurd hstate (by decide)
      obtain ⟨h1, h2⟩ := hother b hb
      exact (takeSettle_keeps (P := fun v => y.SettledFrom v ∧ (v.bay b).IdentifiedAs k') hload ⟨hid, by rwa [h1]⟩
        (fun o => ⟨hjoin o, by rwa [h2]⟩) fun v w hv hw =>
          ⟨admitOne_settledFrom hv.1 hw, admitOne_identified hv.1.queue hv.2 hw⟩).2
  · exact ⟨h, fun _ _ _ hsame => hsame, fun _ _ hk => hk⟩

/-- The settle of a bay that waits identifies its carrier. -/
theorem settleWaiting_identifies (hq : y.QueueOk) (hl : y.loading = false) (h : y.SettledFrom u)
    (hc : (u.bay c).state = .settling) (ht : (u.bay c).timer = .settled) :
    ((settleWaiting k u c).bay c).IdentifiedAs (k.get c) := by
  have hid := identify_settledFrom h hc (k.get c)
  have hoff : ((u.identify c (k.get c)).bay c).state = .off := by rw [identify_bay, if_pos rfl]
  have hjoin := fun o => enqueue_settledFrom hq hid hoff (SettledFrom.settling h hc) o
  rw [settleWaiting, if_pos ((Bool.and_eq_true _ _).mpr ⟨decide_eq_true hc, decide_eq_true ht⟩)]
  refine (takeSettle_keeps (P := fun v => y.SettledFrom v ∧ (v.bay c).IdentifiedAs (k.get c)) (SettledFrom.loading h hl)
    ⟨hid, ?_⟩ (fun o => ⟨hjoin o, ?_⟩) fun v w hv hw =>
      ⟨admitOne_settledFrom hv.1 hw, admitOne_identified hv.1.queue hv.2 hw⟩).2
  · rw [identify_bay, if_pos rfl]
    exact ⟨rfl, rfl, List.mem_cons_self⟩
  · rw [enqueue_bay, if_pos rfl, identify_bay, if_pos rfl]
    exact ⟨rfl, rfl, List.mem_cons_of_mem _ List.mem_cons_self⟩

theorem foldl_settleWaiting (hq : y.QueueOk) (hl : y.loading = false) (bs : List BayId) (h : y.SettledFrom u) :
    y.SettledFrom (bs.foldl (settleWaiting k) u)
    ∧ (∀ b, b ∉ bs → (y.bay b).state = .settling → u.bay b = y.bay b → (bs.foldl (settleWaiting k) u).bay b = y.bay b)
    ∧ (∀ b k', (u.bay b).IdentifiedAs k' → ((bs.foldl (settleWaiting k) u).bay b).IdentifiedAs k') := by
  induction bs generalizing u with
  | nil => exact ⟨h, fun _ _ _ hsame => hsame, fun _ _ hk => hk⟩
  | cons c bs ih =>
    obtain ⟨h1, h2, h3⟩ := settleWaiting_keeps k hq hl h c
    obtain ⟨i1, i2, i3⟩ := ih h1
    refine ⟨i1, fun b hb hs hsame => ?_, fun b k' hk => i3 b k' (h3 b k' hk)⟩
    obtain ⟨hne, hbs⟩ := not_or.mp (fun hm => hb (List.mem_cons.mpr hm))
    exact i2 b hbs hs (h2 b hne hs hsame)

/-- After the settles of a load every bay that waited is identified. -/
theorem endSettles_spec (hq : y.QueueOk) (hl : y.loading = false) (hp : y.Both (PortState.Holds .enclosure)) :
    y.SettledFrom (endSettles k y)
    ∧ ∀ b, (y.bay b).state = .settling → (y.bay b).timer = .settled →
        ((endSettles k y).bay b).IdentifiedAs (k.get b) := by
  have hstart := settledFrom_refl hq hp
  rw [endSettles_eq]
  refine ⟨(foldl_settleWaiting k hq hl allBays hstart).1, fun b hs ht => ?_⟩
  obtain ⟨before, after, hsplit⟩ := List.append_of_mem (mem_allBays b)
  have hnodup := nodup_allBays
  rw [hsplit, List.nodup_append] at hnodup
  obtain ⟨-, -, hdisjoint⟩ := hnodup
  have hbefore : b ∉ before := fun hm => hdisjoint b hm b List.mem_cons_self rfl
  obtain ⟨h1, h2, -⟩ := foldl_settleWaiting k hq hl before hstart
  have hsame := h2 b hbefore hs rfl
  have hnow := settleWaiting_identifies k hq hl h1 (by rw [hsame]; exact hs) (by rw [hsame]; exact ht)
  obtain ⟨h3, -⟩ := settleWaiting_keeps k hq hl h1 b
  rw [hsplit, List.foldl_append, List.foldl_cons]
  exact (foldl_settleWaiting k hq hl after h3).2.2 b _ hnow

end Settles

end Sys2Proof.Machine

/-!
PROOF. The completion of a load (10.2): the settings taken up, the collapse it may leave, the settles that waited and
the opportunity that ends it.
-/

namespace Sys2Proof.Machine

/-- What the Ledger's recompute hands to the settles that waited. -/
structure State.LoadedAs (s : State) (answer : LoadAnswer) (y : State) : Prop where
  settings : y.settings = (takeLoad answer s).settings
  store : y.store = (takeLoad answer s).store
  memory : y.memory = memoryFound answer s.memory
  controlling : y.controlling = y.settings.ports.preferred
  gap : y.gap = s.gap
  queueOk : y.QueueOk
  queue : y.queue = (resortQueue { s with settings := y.settings }).queue
  posted : y.Both (PortState.Holds .enclosure)
  zones : ∀ z, (y.zone z).ceiling = (if (s.zone z).overheat then 100 else (y.zoneCfg z).ceiling)
    ∧ (y.zone z).reservation = max (y.zone z).ceiling (s.zone z).applied
  collapse : y.collapse = decide (y.goodSupplies = [])
  current : recompute y = y
  kept : ∀ b, ¬ (y.goodSupplies = [] ∧ (s.bay b).state ∈ [BayState.starting, .ready]) → y.bay b = { s.bay b with
    attention := (s.bay b).attention && (y.bayCfg b).buttonEnabled
    timer := if (s.bay b).state = .starting then .surge ((y.settings.profiles.get (s.bay b).profile).surgeTime * 100)
      else (s.bay b).timer }
  stopped : ∀ b, y.goodSupplies = [] → (s.bay b).state ∈ [BayState.starting, .ready] →
    (y.bay b).state = .stopping ∧ (y.bay b).origin = some .restore ∧ (y.bay b).profile = (s.bay b).profile

theorem loaded_loadedAs {s : State} (answer : LoadAnswer) (hq : s.QueueOk) : s.LoadedAs answer (s.loaded answer) := by
  obtain ⟨hset, hstore, hmemory, hcontrolling, hgap, hqueue, hzones, hsup, hcollapse, hbay⟩ :=
    Completed.fields (loaded_completed s answer)
  have hposted : (s.loaded answer).Both (PortState.Holds .enclosure) :=
    both_recompute (post_holds _) (reloadCollapse_posts (takeSettings_posts answer s))
  have hcurrent : recompute (s.loaded answer) = s.loaded answer := recompute_idem _
  have hwindow := takeSettings_window answer s
  have hzone := takeSettings_zones answer s
  have honly := takeSettings_only answer s
  have hwqueue := takeSettings_queue answer s
  have hwok := takeSettings_queueOk answer hq
  have hgood := goodSupplies_congr hset hsup
  have hmem := takeLoad_memory answer s
  generalize s.loaded answer = y at *
  generalize takeSettings answer s = w at *
  have hwset : w.settings = (takeLoad answer s).settings := by rw [honly]
  have hstate : ∀ b, (w.bay b).state = (s.bay b).state := fun b => by rw [hwindow]
  rw [← hgood] at hcollapse
  have hkept : ∀ b, ¬ (y.goodSupplies = [] ∧ (s.bay b).state ∈ [BayState.starting, .ready]) → y.bay b = w.bay b :=
    fun b hb => by rw [hbay, if_neg (by rwa [← hgood, hstate])]
  have hcfg : ∀ b, y.bayCfg b = w.bayCfg b := fun b => by rw [State.bayCfg, hset, State.bayCfg]
  have hpowered : ∀ b, (s.bay b).state = .queued → ¬ (y.goodSupplies = [] ∧ (s.bay b).state ∈ [BayState.starting, .ready]) :=
    fun b hb h => by
      rw [hb] at h
      exact absurd h.2 (by decide)
  refine ⟨hset.trans hwset, ?_, ?_, ?_, ?_, ?_, ?_, hposted, fun z => ?_, hcollapse, hcurrent, fun b hb => ?_,
    fun b hb hs => ?_⟩
  · rw [hstore, honly]
  · rw [hmemory, ← hmem, honly]
  · rw [hcontrolling, hset, honly]
  · rw [hgap, honly]
  · refine queueOk_of_same hwok hqueue (fun b => by rw [hcfg]) (fun b => ?_) fun b hb => by
      rw [hkept b (hpowered b (by rw [← hstate]; exact hb))]
    by_cases hs : y.goodSupplies = [] ∧ (s.bay b).state ∈ [BayState.starting, .ready]
    · rw [hbay, if_pos ⟨hgood ▸ hs.1, by rw [hstate]; exact hs.2⟩, Bay.collapsed]
      exact ⟨nofun, fun hb => absurd hs (hpowered b (by rw [← hstate]; exact hb))⟩
    · rw [hkept b hs]
  · rw [hqueue, hwqueue, hset]
    rfl
  · rw [State.zone, hzones, State.zoneCfg, hset]
    exact hzone z
  · rw [hkept b hb, hwindow, hcfg, hset]
  · have hstop := hbay b
    rw [if_pos ⟨hgood ▸ hb, by rwa [hstate]⟩] at hstop
    rw [hstop]
    exact ⟨rfl, rfl, by rw [Bay.collapsed, hwindow]⟩

/-- A bay outside QUEUED and SETTLING is after the completion as the recompute left it. -/
theorem LoadedAs.powered {s y : State} {answer : LoadAnswer} (h : s.LoadedAs answer y) {b : BayId}
    (hb : (s.bay b).state ∈ [BayState.starting, .ready]) : (y.bay b).state ∉ [BayState.queued, .settling] := by
  by_cases hg : y.goodSupplies = []
  · rw [(h.stopped b hg hb).1]
    decide
  · rw [h.kept b fun hs => hg hs.1]
    dsimp only
    intro hs
    simp only [List.mem_cons, List.not_mem_nil, or_false] at hb hs
    rcases hb with hb | hb <;> simp [hb] at hs

/-- A settle of `s` has expired and waits for the load (R6). -/
def State.Waits (s : State) (b : BayId) : Prop := (s.bay b).state = .settling ∧ (s.bay b).timer = .settled

/-- The bays that wait do so until their settles are taken. -/
theorem LoadedAs.waits_iff {s y : State} {answer : LoadAnswer} (h : s.LoadedAs answer y) (b : BayId) :
    y.Waits b ↔ s.Waits b := by
  unfold State.Waits
  by_cases hs : y.goodSupplies = [] ∧ (s.bay b).state ∈ [BayState.starting, .ready]
  · obtain ⟨hstop, -⟩ := h.stopped b hs.1 hs.2
    rw [hstop]
    refine iff_of_false (fun hw => by cases hw.1) fun hw => ?_
    rw [hw.1] at hs
    exact absurd hs.2 (by decide)
  · rw [h.kept b hs]
    dsimp only
    refine and_congr_right fun hsettling => ?_
    rw [if_neg (by rw [hsettling]; decide)]

/-- The completion of a load: the drawer taken up, the settles that waited, and the last opportunity. -/
theorem loadComplete_spec {s : State} (answer : LoadAnswer) (k : Vector ProfileId 60) (hl : s.loading = true)
    (hq : s.QueueOk) : ∃ y, s.LoadedAs answer y ∧ y.SettledFrom (loadComplete answer k s)
    ∧ opportunity (loadComplete answer k s) = loadComplete answer k s
    ∧ (∀ b, s.Waits b → ((loadComplete answer k s).bay b).IdentifiedAs (k.get b))
    ∧ ((∀ b, ¬ s.Waits b) → loadComplete answer k s = opportunity y) := by
  have hcomplete : loadComplete answer k s = opportunity (endSettles k (s.loaded answer)) := if_pos hl
  have h := loaded_loadedAs answer hq
  generalize s.loaded answer = y at h hcomplete
  have hy : y.loading = false := by
    rw [State.loading, h.store]
    exact takeLoad_loading answer s
  obtain ⟨hsettled, hidentified⟩ := endSettles_spec k h.queueOk hy h.posted
  refine ⟨y, h, ?_⟩
  rw [hcomplete]
  refine ⟨opportunity_settledFrom hsettled, opportunity_idem _, fun b hb => ?_, fun hnone => ?_⟩
  · obtain ⟨hs, ht⟩ := (LoadedAs.waits_iff h b).mpr hb
    exact (opportunity_keeps (P := fun v => y.SettledFrom v ∧ (v.bay b).IdentifiedAs (k.get b))
      (fun v w hv hw => ⟨admitOne_settledFrom hv.1 hw, admitOne_identified hv.1.queue hv.2 hw⟩)
      ⟨hsettled, hidentified b hs ht⟩).2
  · have hsame : endSettles k y = y := takeSettles_of_none fun b hs =>
      decide_eq_false fun ht => hnone b ((LoadedAs.waits_iff h b).mp ⟨hs, ht⟩)
    rw [hsame]

theorem SettledFrom.fields {y t : State} (h : y.SettledFrom t) : t.settings = y.settings ∧ t.store = y.store
    ∧ t.memory = y.memory ∧ t.controlling = y.controlling ∧ t.zones = y.zones ∧ t.supplies = y.supplies
    ∧ t.collapse = y.collapse := by
  simpa only [State.parts, Prod.mk.injEq] using h.parts

theorem loadComplete_idle {answer : LoadAnswer} {k : Vector ProfileId 60} {s : State} (h : ∀ r, s.store ≠ .loading r) :
    loadComplete answer k s = s := by
  refine if_neg fun hl => ?_
  rw [State.loading] at hl
  cases hs : s.store with
  | loading r => exact h r hs
  | _ => rw [hs] at hl; cases hl

theorem resort_mem (s : State) (b : BayId) :
    b ∈ (resortQueue s).queue.map (·.bay) ↔ b ∈ s.queue.map (·.bay) := by
  have hbays : (s.queue.map s.relevel).map (·.bay) = s.queue.map (·.bay) := by
    rw [relevel_eq, List.map_map]
    refine List.map_congr_left fun e _ => ?_
    rw [Function.comp_apply]
    split <;> rfl
  rw [resortQueue, ((sortQueue_perm _).map _).mem_iff, hbays]

/-- Settles O51: the recompute leaves the drawer as `LoadedAs` says; settles and admissions go on from there. -/
theorem loadCompletion : Obligations.LoadCompletion := by
  refine ⟨fun answer contacts s hrun => ⟨fun hidle => exec_event rfl hrun (loadComplete_idle hidle),
    fun ⟨r, hr⟩ hqueue => ?_⟩, fun s => ⟨rfl, sortQueue_sorted _, fun l => ?_⟩⟩
  · have hloading : s.loading = true := by rw [State.loading, hr]; rfl
    obtain ⟨y, h, hend, hidem, hidentified, hlast⟩ := loadComplete_spec answer contacts hloading hqueue
    refine ⟨loadComplete answer contacts s, exec_event rfl hrun rfl, ?_⟩
    generalize loadComplete answer contacts s = t at hend hidem hidentified hlast ⊢
    obtain ⟨hset, hstore, hmemory, hcontrolling, hzones, hsup, hcollapse⟩ := SettledFrom.fields hend
    have hgood : t.goodSupplies = y.goodSupplies := goodSupplies_congr hset hsup
    have hcfg : ∀ b, t.bayCfg b = y.bayCfg b := fun b => by rw [State.bayCfg, hset, State.bayCfg]
    have hpowered : ∀ b, (s.bay b).state ∈ [BayState.starting, .ready] → t.bay b = y.bay b := fun b hb =>
      hend.others b (LoadedAs.powered h hb)
    refine ⟨?_, ?_, hend.posted.1.1, hend.posted.2.1, fun b => ⟨fun hsup hs => ?_, fun hsup hs => ?_, fun hs ht =>
      hidentified b ⟨hs, ht⟩, fun hnone hs => ?_⟩, ?_, fun z => ?_, ?_, hidem, fun hnone => ?_⟩
    · rw [hstore, hset, hmemory, h.store, h.settings, h.memory]
      have hread := @takeLoad_read answer s
      have hunread := @takeLoad_unread answer s
      clear h hend hidem hidentified hlast
      cases answer with
      | noAnswer => exact ⟨rfl, nofun, fun _ => hunread rfl⟩
      | held =>
        generalize s.memory = m at hread hunread ⊢
        cases m with
        | none => exact ⟨rfl, nofun, fun _ => hunread rfl⟩
        | some image => exact ⟨rfl, fun c hc => hread hc, fun hno => hunread hno⟩
      | other found =>
        cases found with
        | none => exact ⟨rfl, nofun, fun _ => hunread rfl⟩
        | some image => exact ⟨rfl, fun c hc => hread hc, fun hno => hunread hno⟩
    · rw [hcontrolling, h.controlling, hset]
    · have hbay := hpowered b (by rw [hs]; decide)
      have hkept := h.kept b fun hstop => hsup (hgood.trans hstop.1)
      rw [hcfg, State.profile, hset, hbay, hkept, if_pos hs]
    · have hbay := hpowered b (by rw [hs]; decide)
      have hkept := h.kept b fun hstop => hsup (hgood.trans hstop.1)
      rw [hcfg, hbay, hkept, if_neg (by rw [hs]; decide)]
    · obtain ⟨hstop, horigin, -⟩ := h.stopped b (hgood.symm.trans hnone) hs
      rw [hpowered b hs]
      exact ⟨hstop, horigin⟩
    · have horder := hend.order
      rw [h.queue] at horder
      simp only [resort_mem] at horder
      rw [hset]
      exact horder
    · rw [State.zone, hzones, State.zoneCfg, hset]
      exact h.zones z
    · rw [hcollapse, h.collapse, hgood]
    · refine ⟨y, hlast fun b hw => hnone b hw, h.current, ?_, h.gap, hstore.symm, hset.symm, fun b => ?_⟩
      · rw [hset]
        exact h.queue
      · rw [hgood]
        by_cases hs : y.goodSupplies = [] ∧ (s.bay b).state ∈ [BayState.starting, .ready]
        · obtain ⟨hstop, -, hprofile⟩ := h.stopped b hs.1 hs.2
          exact ⟨hprofile, by rw [if_pos hs, hstop]⟩
        · rw [h.kept b hs, if_neg hs]
          exact ⟨rfl, rfl⟩
  · rw [resortQueue, filter_sortQueue, relevel_eq]

end Sys2Proof.Machine
